-- ==== Sys2Proof/Word.lean ====
section
/-! DEFINITION. The word types of the block: what the spec treats as bits (R9, R10). -/

namespace Sys2Proof

/-- One byte of a byte stream (R50); bit 7 is its high bit (R9). -/
abbrev Byte := BitVec 8

/-- A 32-bit native assembly opcode (R8 `OPCODE_WIDTH`, R71). -/
abbrev Opcode := BitVec 32

/-- A value delivered by the operand unpacker (R8 `VALUE_WIDTH`, R210). -/
abbrev Value := BitVec 32

/-- A 9-bit register address of the decoded chip (R8 `ADDR_WIDTH`, R24). -/
abbrev RegAddr := BitVec 9

end Sys2Proof
end

