-- ==== Sys2Proof/Config.lean ====
section
/-! DEFINITION. The parameters of the block (R8): the types of its constant tables (R22), the numbers the spec
fixes, and the one free value. The contents of the tables are in Machine/Tables.lean. -/

namespace Sys2Proof

/-- The closed set of dispatch kinds of an assembly entry (R23). -/
inductive Kind where
  | normal | wr | hub | jump
deriving DecidableEq, Repr

/-- A SubInstruction: one variant of an assembly entry (R23). -/
structure Variant where
  /-- the display name, non-empty (R23, R85) -/
  name : String
  /-- the variant has a destination operand -/
  hasDest : Bool
  /-- the variant has a source operand -/
  hasSrc : Bool
  /-- it honors the write-Z flag at all -/
  honorsZ : Bool
  /-- it honors the write-C flag at all -/
  honorsC : Bool
  /-- writing the result back is controlled by the write-result flag -/
  honorsR : Bool
  /-- with the immediate bit set the source field is a literal, not a register -/
  srcLiteral : Bool
deriving DecidableEq, Repr

/-- An entry of `ASM_TABLE` (R23): its kind and its ordered variants. The kind fixes how many there are, so an entry
with a kind outside the set or a variant missing cannot be written (R119, R315). -/
inductive AsmEntry where
  | normal (v : Variant)
  | wr (v0 v1 : Variant)
  | hub (vs : Vector Variant 9)
  | jump (v0 v1 v2 v3 : Variant)
deriving DecidableEq, Repr

/-- An entry of `SPECIAL_REGS` (R25). The two flags are metadata only (R26). -/
structure SpecialReg where
  name : String
  readable : Bool
  writable : Bool
deriving DecidableEq, Repr

/-- An entry of `SLOT_REGS`: only a name (R27). -/
structure SlotReg where
  name : String
deriving DecidableEq, Repr

/-- The operand rule tags (R81): which operand form, if any, the caller must read next. `effect` names a follow-up
whose decoding the spec does not define; the block only reports the tag. -/
inductive OperandRule where
  | none | effect | signedOffset | signedPackedOffset | packedLiteral | packedOffset | word | nearLong | long
deriving DecidableEq, Repr

/-- The three selection rules of an assignment family (R239). -/
inductive FamilyRule where
  | writeRepeat | normal | size
deriving DecidableEq, Repr

/-- A variant of an assignment family (R239). -/
structure AssignVariant where
  name : String
  operandRule : OperandRule
deriving DecidableEq, Repr

/-- An entry of `ASSIGN_FAMILIES` (R239). A list shorter than its rule can select is what `NoVariant` is for (R236). -/
structure AssignFamily where
  rule : FamilyRule
  variants : List AssignVariant
deriving DecidableEq, Repr

/-- An entry of `MATH_OPS` (R248). -/
structure MathEntry where
  name : String
  /-- the operator number m (R248) -/
  mathop : BitVec 5
  swap : Bool
  operandRule : OperandRule
deriving DecidableEq, Repr

/-- The action classes of a memory-operation byte (R293). -/
inductive ActionClass where
  | push | pop | effect | unknown
deriving DecidableEq, Repr

/-- The constant tables of the block (R22) as one record: the parameters a model takes (R8). State holds one, no
operation writes it, and a statement for every state holds for every contents. -/
structure Tables where
  /-- `ASM_TABLE`, indexed by INSTR (R140) -/
  asm : Vector AsmEntry 64
  /-- `COND_SYNONYMS`, indexed by CON (R120) -/
  cond : Vector (List String) 16
  /-- `SPECIAL_REGS` (R25) -/
  special : Vector SpecialReg 16
  /-- `SLOT_REGS` (R27) -/
  slots : Vector SlotReg 16
  /-- `ASSIGN_FAMILIES`, indexed by b[5:3] (R239) -/
  families : Vector AssignFamily 8
  /-- `MATH_OPS`, indexed by b[5:0] (R248) -/
  mathOps : Vector MathEntry 64
  /-- `MEMOP_ACTION_CLASS`, indexed by the 4-bit action code (R293) -/
  memopClass : Vector ActionClass 16
  /-- `MEMOP_REG_BASE` (R292) -/
  memopRegBase : RegAddr
deriving DecidableEq, Repr

namespace Config

/-- `SPECIAL_BASE` (R8, R24): the lowest address of the special-register window. -/
def specialBase : RegAddr := 0x1F0#9

/-- `SPECIAL_COUNT` (R8). -/
def specialCount : Nat := 16

/-- `SLOT_COUNT` (R8). -/
def slotCount : Nat := 16

/-- `SLOT_REG_NAMES` (R8, R27): OPEN with no default (decision D16), so the name of slot `i` is a FREE VALUE.
DESIGN CHOICE, safe: notes/assumptions/9.md. -/
opaque slotRegName : Nat → String

end Config

end Sys2Proof
end

