-- ==== Sys2Proof/Syntax.lean ====
section
/-! DEFINITION. The instructions of the block: one constructor for each row of spec/opcode_table.json, in its order.
An instruction is one decode call's input, split into the fields its row leaves free; bits that no field names are
operands too, since the record reports the whole opcode or byte. Which name the record carries comes from the tables of
the state, so a constructor's name is the row's name in the default tables (notes/assumptions/8.md). -/

namespace Sys2Proof

/-- Operands of a row that fixes INSTR only: every Normal row (R71, R112). -/
structure FullOps where
  z : Bool
  c : Bool
  r : Bool
  i : Bool
  con : BitVec 4
  dest : RegAddr
  src : RegAddr
deriving DecidableEq, Repr

/-- Operands of a row that fixes INSTR and R: the WR rows (R113), and JMP, whose R is 0 (R116). -/
structure FixedROps where
  z : Bool
  c : Bool
  i : Bool
  con : BitVec 4
  dest : RegAddr
  src : RegAddr
deriving DecidableEq, Repr

/-- Operands of a Hub row, which fixes SRC[2:0]; `srcHi` is SRC[8:3] (R114). -/
structure HubOps where
  z : Bool
  c : Bool
  r : Bool
  i : Bool
  con : BitVec 4
  dest : RegAddr
  srcHi : BitVec 6
deriving DecidableEq, Repr

/-- Operands of RET, which fixes R = 0 and SRC = 0 (R116). -/
structure RetOps where
  z : Bool
  c : Bool
  i : Bool
  con : BitVec 4
  dest : RegAddr
deriving DecidableEq, Repr

/-- Operands of JMPRET and CALL, which fix R and I (R116). -/
structure LinkOps where
  z : Bool
  c : Bool
  con : BitVec 4
  dest : RegAddr
  src : RegAddr
deriving DecidableEq, Repr

/-- The bytecode entry points (R15): the seven unpacking rules (R211 to R218), `decode_assignment` (R230) and
`decode_memory_operation` (R290). The caller chooses which one it calls (R84). -/
inductive ByteEntry where
  | signedOffset | signedPackedOffset | packedLiteral | packedOffset | word | nearLong | long
  | assignment | memoryOperation
deriving DecidableEq, Repr

/-- One instruction: one row of spec/opcode_table.json with its operands. -/
inductive Instr where
  -- Format A: 32-bit assembly opcodes (R71, R142 to R205)
  | asmRdbyte (o : FixedROps)
  | asmWrbyte (o : FixedROps)
  | asmRdword (o : FixedROps)
  | asmWrword (o : FixedROps)
  | asmRdlong (o : FixedROps)
  | asmWrlong (o : FixedROps)
  | asmClkset (o : HubOps)
  | asmCogid (o : HubOps)
  | asmCoginit (o : HubOps)
  | asmCogstop (o : HubOps)
  | asmLocknew (o : HubOps)
  | asmLockret (o : HubOps)
  | asmLockset (o : HubOps)
  | asmLockclr (o : HubOps)
  /-- Hub variant 8: held in the table and selected by no opcode (R86, R115); it has no encoding. -/
  | asmHubop
  | asmMul (o : FullOps)
  | asmMuls (o : FullOps)
  | asmEnc (o : FullOps)
  | asmOnes (o : FullOps)
  | asmRor (o : FullOps)
  | asmRol (o : FullOps)
  | asmShr (o : FullOps)
  | asmShl (o : FullOps)
  | asmRcr (o : FullOps)
  | asmRcl (o : FullOps)
  | asmSar (o : FullOps)
  | asmRev (o : FullOps)
  | asmMins (o : FullOps)
  | asmMaxs (o : FullOps)
  | asmMin (o : FullOps)
  | asmMax (o : FullOps)
  | asmMovs (o : FullOps)
  | asmMovd (o : FullOps)
  | asmMovi (o : FullOps)
  | asmRet (o : RetOps)
  | asmJmp (o : FixedROps)
  | asmJmpret (o : LinkOps)
  | asmCall (o : LinkOps)
  | asmAnd (o : FixedROps)
  | asmTest (o : FixedROps)
  | asmAndn (o : FixedROps)
  | asmTestn (o : FixedROps)
  | asmOr (o : FullOps)
  | asmXor (o : FullOps)
  | asmMuxc (o : FullOps)
  | asmMuxnc (o : FullOps)
  | asmMuxz (o : FullOps)
  | asmMuxnz (o : FullOps)
  | asmAdd (o : FullOps)
  | asmSub (o : FixedROps)
  | asmCmp (o : FixedROps)
  | asmAddabs (o : FullOps)
  | asmSubabs (o : FullOps)
  | asmSumc (o : FullOps)
  | asmSumnc (o : FullOps)
  | asmSumz (o : FullOps)
  | asmSumnz (o : FullOps)
  | asmMov (o : FullOps)
  | asmNeg (o : FullOps)
  | asmAbs (o : FullOps)
  | asmAbsneg (o : FullOps)
  | asmNegc (o : FullOps)
  | asmNegnc (o : FullOps)
  | asmNegz (o : FullOps)
  | asmNegnz (o : FullOps)
  | asmCmps (o : FullOps)
  | asmCmpsx (o : FullOps)
  | asmAddx (o : FullOps)
  | asmSubx (o : FixedROps)
  | asmCmpx (o : FixedROps)
  | asmAdds (o : FullOps)
  | asmSubs (o : FullOps)
  | asmAddsx (o : FullOps)
  | asmSubsx (o : FullOps)
  | asmCmpsub (o : FullOps)
  | asmDjnz (o : FullOps)
  | asmTjnz (o : FullOps)
  | asmTjz (o : FullOps)
  | asmWaitpeq (o : FullOps)
  | asmWaitpne (o : FullOps)
  | asmWaitcnt (o : FullOps)
  | asmWaitvid (o : FullOps)
  -- Format C: memory-operation bytes (R79, R290)
  | memopUnknownA0 (sel : Bool) (index : BitVec 4)
  | memopUnknownA1 (sel : Bool) (index : BitVec 4)
  | memopUnknownA2 (sel : Bool) (index : BitVec 4)
  | memopUnknownA3 (sel : Bool) (index : BitVec 4)
  | memopPushA4 (sel : Bool) (index : BitVec 4)
  | memopPopA5 (sel : Bool) (index : BitVec 4)
  | memopEffectA6 (sel : Bool) (index : BitVec 4)
  | memopUnknownA7 (sel : Bool) (index : BitVec 4)
  -- Format B with math = 0: assignment bytes (R77, R233)
  | assignWrite (push bit2 bit0 : Bool)
  | assignRepeatCompare (push bit2 bit0 : Bool)
  | assignRandomForward (push bit1 bit0 : Bool)
  | assignRandomReverse (push bit1 bit0 : Bool)
  | assignSignExtendByte (push bit1 bit0 : Bool)
  | assignSignExtendWord (push bit1 bit0 : Bool)
  | assignPostClear (push bit1 bit0 : Bool)
  | assignPostSet (push bit1 bit0 : Bool)
  | assignPreIncBit (push bit0 : Bool)
  | assignPreIncByte (push bit0 : Bool)
  | assignPreIncWord (push bit0 : Bool)
  | assignPreIncLong (push bit0 : Bool)
  | assignPostIncBit (push bit0 : Bool)
  | assignPostIncByte (push bit0 : Bool)
  | assignPostIncWord (push bit0 : Bool)
  | assignPostIncLong (push bit0 : Bool)
  | assignPreDecBit (push bit0 : Bool)
  | assignPreDecByte (push bit0 : Bool)
  | assignPreDecWord (push bit0 : Bool)
  | assignPreDecLong (push bit0 : Bool)
  | assignPostDecBit (push bit0 : Bool)
  | assignPostDecByte (push bit0 : Bool)
  | assignPostDecWord (push bit0 : Bool)
  | assignPostDecLong (push bit0 : Bool)
  -- Format B with math = 1: math-operator bytes (R78, R232)
  | mathRor (push : Bool)
  | mathRol (push : Bool)
  | mathShr (push : Bool)
  | mathShl (push : Bool)
  | mathMin (push : Bool)
  | mathMax (push : Bool)
  | mathNeg (push : Bool)
  | mathBitNot (push : Bool)
  | mathAnd (push : Bool)
  | mathAbs (push : Bool)
  | mathOr (push : Bool)
  | mathXor (push : Bool)
  | mathAdd (push : Bool)
  | mathSub (push : Bool)
  | mathSar (push : Bool)
  | mathRev (push : Bool)
  | mathLogAnd (push : Bool)
  | mathEncode (push : Bool)
  | mathLogOr (push : Bool)
  | mathDecode (push : Bool)
  | mathMul (push : Bool)
  | mathMulHi (push : Bool)
  | mathDiv (push : Bool)
  | mathMod (push : Bool)
  | mathSqrt (push : Bool)
  | mathLt (push : Bool)
  | mathGt (push : Bool)
  | mathNe (push : Bool)
  | mathEq (push : Bool)
  | mathLe (push : Bool)
  | mathGe (push : Bool)
  | mathLogNot (push : Bool)
  | mathRorSwap (push : Bool)
  | mathRolSwap (push : Bool)
  | mathShrSwap (push : Bool)
  | mathShlSwap (push : Bool)
  | mathMinSwap (push : Bool)
  | mathMaxSwap (push : Bool)
  | mathNegSwap (push : Bool)
  | mathBitNotSwap (push : Bool)
  | mathAndSwap (push : Bool)
  | mathAbsSwap (push : Bool)
  | mathOrSwap (push : Bool)
  | mathXorSwap (push : Bool)
  | mathAddSwap (push : Bool)
  | mathSubSwap (push : Bool)
  | mathSarSwap (push : Bool)
  | mathRevSwap (push : Bool)
  | mathLogAndSwap (push : Bool)
  | mathEncodeSwap (push : Bool)
  | mathLogOrSwap (push : Bool)
  | mathDecodeSwap (push : Bool)
  | mathMulSwap (push : Bool)
  | mathMulHiSwap (push : Bool)
  | mathDivSwap (push : Bool)
  | mathModSwap (push : Bool)
  | mathSqrtSwap (push : Bool)
  | mathLtSwap (push : Bool)
  | mathGtSwap (push : Bool)
  | mathNeSwap (push : Bool)
  | mathEqSwap (push : Bool)
  | mathLeSwap (push : Bool)
  | mathGeSwap (push : Bool)
  | mathLogNotSwap (push : Bool)
  -- Format D: operand forms (R80)
  | operandSignedOffset1 (v : BitVec 7)
  | operandSignedOffset2 (hi : BitVec 7) (lo : Byte)
  | operandSignedPackedOffset1 (v : BitVec 7)
  | operandSignedPackedOffset2 (hi : BitVec 7) (lo : Byte)
  | operandPackedLiteral (complement decrement : Bool) (exponent : BitVec 5)
  | operandPackedLiteralMalformed (low : BitVec 7)
  | operandPackedOffset1 (v : BitVec 7)
  | operandPackedOffset2 (hi : BitVec 7) (lo : Byte)
  | operandWord (b0 b1 : Byte)
  | operandNearLong (b0 b1 b2 : Byte)
  | operandLong (b0 b1 b2 b3 : Byte)
deriving DecidableEq, Repr

end Sys2Proof
end

