-- ==== Sys2Proof/WellFormed.lean ====
section
/-! DEFINITION. Which terms of `Instr` are instructions of the block: those some input of a decode call encodes. -/

namespace Sys2Proof

/-- An instruction that has an encoding. Every operand has exactly its field's width by its type, so two checks are
left: a JMP with SRC = 0 is a RET (R116, R207), and no opcode selects HUBOP (R86, R115). -/
def Instr.wellFormed : Instr → Bool
  | .asmJmp o => o.src != 0#9
  | .asmHubop => false
  | _ => true

/-- `wellFormed` as a proposition. -/
abbrev WellFormed (i : Instr) : Prop := i.wellFormed = true

end Sys2Proof
end

