-- ==== Sys2Proof/Decode.lean ====
section
/-! DEFINITION. Encodings: the input formats of the block (30_encoding.md), the decoder and the encoder.
The decoder reads a presented input as a row of spec/opcode_table.json; the record comes from the meaning. -/

namespace Sys2Proof

/-! ### Bit fields (R9, R72) -/

/-- `field(op, lo, w)` of R72: the unsigned value of bits `lo + w - 1` down to `lo`. -/
def field (op : Opcode) (lo w : Nat) : BitVec w := op.extractLsb' lo w

/-- INSTR, bits 31:26 (R71). -/
def instrOf (op : Opcode) : BitVec 6 := field op 26 6

/-- ZCRI, bits 25:22 (R71). -/
def zcriOf (op : Opcode) : BitVec 4 := field op 22 4

/-- CON, bits 21:18 (R71, R75). -/
def conOf (op : Opcode) : BitVec 4 := field op 18 4

/-- DEST, bits 17:9 (R71, R74). -/
def destOf (op : Opcode) : RegAddr := field op 9 9

/-- SRC, bits 8:0 (R71, R73). -/
def srcOf (op : Opcode) : RegAddr := field op 0 9

/-- Z, the write-Z flag: `zcri[3]` (R71). -/
def zOf (op : Opcode) : Bool := (zcriOf op).getLsbD 3

/-- C, the write-C flag: `zcri[2]` (R71). -/
def cOf (op : Opcode) : Bool := (zcriOf op).getLsbD 2

/-- R, the write-result flag: `zcri[1]` (R71). -/
def rOf (op : Opcode) : Bool := (zcriOf op).getLsbD 1

/-- I, the immediate-value flag: `zcri[0]` (R71). -/
def iOf (op : Opcode) : Bool := (zcriOf op).getLsbD 0

/-! ### Formats -/

/-- Format A: `iiiiii zcri cccc ddddddddd sssssssss` (R71). -/
def asmWord (instr : BitVec 6) (z c r i : Bool) (con : BitVec 4) (dest src : RegAddr) : Opcode :=
  instr ++ BitVec.ofBool z ++ BitVec.ofBool c ++ BitVec.ofBool r ++ BitVec.ofBool i ++ con ++ dest ++ src

/-- The opcode of a Normal row (R112). -/
def fullWord (instr : BitVec 6) (o : FullOps) : Opcode :=
  asmWord instr o.z o.c o.r o.i o.con o.dest o.src

/-- The opcode of a row that fixes R (R113, R116). -/
def fixedRWord (instr : BitVec 6) (r : Bool) (o : FixedROps) : Opcode :=
  asmWord instr o.z o.c r o.i o.con o.dest o.src

/-- The opcode of a Hub row, `sub` being SRC[2:0] (R114). -/
def hubWord (instr : BitVec 6) (sub : BitVec 3) (o : HubOps) : Opcode :=
  asmWord instr o.z o.c o.r o.i o.con o.dest (o.srcHi ++ sub)

/-- The opcode of RET: R = 0 and SRC = 0 (R116). -/
def retWord (instr : BitVec 6) (o : RetOps) : Opcode :=
  asmWord instr o.z o.c false o.i o.con o.dest 0#9

/-- The opcode of JMPRET (I = 0) and CALL (I = 1): R = 1 (R116). -/
def linkWord (instr : BitVec 6) (i : Bool) (o : LinkOps) : Opcode :=
  asmWord instr o.z o.c true i o.con o.dest o.src

/-- Format C: `aaasiiii` (R79). -/
def memopByte (action : BitVec 3) (sel : Bool) (index : BitVec 4) : Byte :=
  action ++ BitVec.ofBool sel ++ index

/-- Format B with math = 0: `p0fffabx`, `a` being Bit2 and `b` Bit1 (R77). -/
def assignByte (push : Bool) (family : BitVec 3) (bit2 bit1 bit0 : Bool) : Byte :=
  BitVec.ofBool push ++ 0#1 ++ family ++ BitVec.ofBool bit2 ++ BitVec.ofBool bit1 ++ BitVec.ofBool bit0

/-- Format B with math = 1: `p1sooooo`, `entry` being swap ++ mathop (R77, R78). -/
def mathByte (push : Bool) (entry : BitVec 6) : Byte :=
  BitVec.ofBool push ++ 1#1 ++ entry

/-- The first byte of an offset form: bit 7 says whether a second byte follows (R80). -/
def offsetByte (long : Bool) (v : BitVec 7) : Byte := BitVec.ofBool long ++ v

/-- A valid packed-literal byte: bit 6 complements, bit 5 subtracts 1, bits 4:0 are the exponent (R213). -/
def packedLiteralByte (complement decrement : Bool) (exponent : BitVec 5) : Byte :=
  0#1 ++ BitVec.ofBool complement ++ BitVec.ofBool decrement ++ exponent

/-! ### Decoding an assembly opcode (R85: every 32-bit value decodes) -/

def fullOps (op : Opcode) : FullOps :=
  { z := zOf op, c := cOf op, r := rOf op, i := iOf op, con := conOf op, dest := destOf op, src := srcOf op }

def fixedROps (op : Opcode) : FixedROps :=
  { z := zOf op, c := cOf op, i := iOf op, con := conOf op, dest := destOf op, src := srcOf op }

def hubOps (op : Opcode) : HubOps :=
  { z := zOf op, c := cOf op, r := rOf op, i := iOf op, con := conOf op, dest := destOf op, srcHi := field op 3 6 }

def retOps (op : Opcode) : RetOps :=
  { z := zOf op, c := cOf op, i := iOf op, con := conOf op, dest := destOf op }

def linkOps (op : Opcode) : LinkOps :=
  { z := zOf op, c := cOf op, con := conOf op, dest := destOf op, src := srcOf op }

/-- A WR entry: the writing row when R is set, else the other (R113). -/
def decodeWr (writing other : FixedROps → Instr) (op : Opcode) : Instr :=
  if rOf op then writing (fixedROps op) else other (fixedROps op)

/-- The Hub entry: the row of SRC[2:0] (R114). -/
def decodeHub (op : Opcode) : Instr :=
  match (field op 0 3).toNat with
  | 0 => .asmClkset (hubOps op)
  | 1 => .asmCogid (hubOps op)
  | 2 => .asmCoginit (hubOps op)
  | 3 => .asmCogstop (hubOps op)
  | 4 => .asmLocknew (hubOps op)
  | 5 => .asmLockret (hubOps op)
  | 6 => .asmLockset (hubOps op)
  | _ => .asmLockclr (hubOps op)

/-- The Jump entry: RET is tried before JMP (R116, R207). -/
def decodeJump (op : Opcode) : Instr :=
  if rOf op then
    if iOf op then .asmCall (linkOps op) else .asmJmpret (linkOps op)
  else if srcOf op = 0#9 then .asmRet (retOps op)
  else .asmJmp (fixedROps op)

/-- The row of an assembly opcode: INSTR selects the entry (R83) and the fields of R76 the row. -/
def decodeAsm (op : Opcode) : Instr :=
  match (instrOf op).toNat with
  | 0 => decodeWr .asmRdbyte .asmWrbyte op
  | 1 => decodeWr .asmRdword .asmWrword op
  | 2 => decodeWr .asmRdlong .asmWrlong op
  | 3 => decodeHub op
  | 4 => .asmMul (fullOps op)
  | 5 => .asmMuls (fullOps op)
  | 6 => .asmEnc (fullOps op)
  | 7 => .asmOnes (fullOps op)
  | 8 => .asmRor (fullOps op)
  | 9 => .asmRol (fullOps op)
  | 10 => .asmShr (fullOps op)
  | 11 => .asmShl (fullOps op)
  | 12 => .asmRcr (fullOps op)
  | 13 => .asmRcl (fullOps op)
  | 14 => .asmSar (fullOps op)
  | 15 => .asmRev (fullOps op)
  | 16 => .asmMins (fullOps op)
  | 17 => .asmMaxs (fullOps op)
  | 18 => .asmMin (fullOps op)
  | 19 => .asmMax (fullOps op)
  | 20 => .asmMovs (fullOps op)
  | 21 => .asmMovd (fullOps op)
  | 22 => .asmMovi (fullOps op)
  | 23 => decodeJump op
  | 24 => decodeWr .asmAnd .asmTest op
  | 25 => decodeWr .asmAndn .asmTestn op
  | 26 => .asmOr (fullOps op)
  | 27 => .asmXor (fullOps op)
  | 28 => .asmMuxc (fullOps op)
  | 29 => .asmMuxnc (fullOps op)
  | 30 => .asmMuxz (fullOps op)
  | 31 => .asmMuxnz (fullOps op)
  | 32 => .asmAdd (fullOps op)
  | 33 => decodeWr .asmSub .asmCmp op
  | 34 => .asmAddabs (fullOps op)
  | 35 => .asmSubabs (fullOps op)
  | 36 => .asmSumc (fullOps op)
  | 37 => .asmSumnc (fullOps op)
  | 38 => .asmSumz (fullOps op)
  | 39 => .asmSumnz (fullOps op)
  | 40 => .asmMov (fullOps op)
  | 41 => .asmNeg (fullOps op)
  | 42 => .asmAbs (fullOps op)
  | 43 => .asmAbsneg (fullOps op)
  | 44 => .asmNegc (fullOps op)
  | 45 => .asmNegnc (fullOps op)
  | 46 => .asmNegz (fullOps op)
  | 47 => .asmNegnz (fullOps op)
  | 48 => .asmCmps (fullOps op)
  | 49 => .asmCmpsx (fullOps op)
  | 50 => .asmAddx (fullOps op)
  | 51 => decodeWr .asmSubx .asmCmpx op
  | 52 => .asmAdds (fullOps op)
  | 53 => .asmSubs (fullOps op)
  | 54 => .asmAddsx (fullOps op)
  | 55 => .asmSubsx (fullOps op)
  | 56 => .asmCmpsub (fullOps op)
  | 57 => .asmDjnz (fullOps op)
  | 58 => .asmTjnz (fullOps op)
  | 59 => .asmTjz (fullOps op)
  | 60 => .asmWaitpeq (fullOps op)
  | 61 => .asmWaitpne (fullOps op)
  | 62 => .asmWaitcnt (fullOps op)
  | _ => .asmWaitvid (fullOps op)

/-! ### Decoding a byte of a bytecode entry point (R281, R300: every byte decodes) -/

/-- The row of a memory-operation byte, by its action bits 7:5 (R79, R291). -/
def decodeMemopByte (b : Byte) : Instr :=
  let sel := b.getLsbD 4
  let index := b.extractLsb' 0 4
  match (b.extractLsb' 5 3).toNat with
  | 0 => .memopUnknownA0 sel index
  | 1 => .memopUnknownA1 sel index
  | 2 => .memopUnknownA2 sel index
  | 3 => .memopUnknownA3 sel index
  | 4 => .memopPushA4 sel index
  | 5 => .memopPopA5 sel index
  | 6 => .memopEffectA6 sel index
  | _ => .memopUnknownA7 sel index

/-- The row of a math-operator byte, by its entry b[5:0] (R78, R232). -/
def decodeMathByte (b : Byte) : Instr :=
  let push := b.getLsbD 7
  match (b.extractLsb' 0 6).toNat with
  | 0 => .mathRor push
  | 1 => .mathRol push
  | 2 => .mathShr push
  | 3 => .mathShl push
  | 4 => .mathMin push
  | 5 => .mathMax push
  | 6 => .mathNeg push
  | 7 => .mathBitNot push
  | 8 => .mathAnd push
  | 9 => .mathAbs push
  | 10 => .mathOr push
  | 11 => .mathXor push
  | 12 => .mathAdd push
  | 13 => .mathSub push
  | 14 => .mathSar push
  | 15 => .mathRev push
  | 16 => .mathLogAnd push
  | 17 => .mathEncode push
  | 18 => .mathLogOr push
  | 19 => .mathDecode push
  | 20 => .mathMul push
  | 21 => .mathMulHi push
  | 22 => .mathDiv push
  | 23 => .mathMod push
  | 24 => .mathSqrt push
  | 25 => .mathLt push
  | 26 => .mathGt push
  | 27 => .mathNe push
  | 28 => .mathEq push
  | 29 => .mathLe push
  | 30 => .mathGe push
  | 31 => .mathLogNot push
  | 32 => .mathRorSwap push
  | 33 => .mathRolSwap push
  | 34 => .mathShrSwap push
  | 35 => .mathShlSwap push
  | 36 => .mathMinSwap push
  | 37 => .mathMaxSwap push
  | 38 => .mathNegSwap push
  | 39 => .mathBitNotSwap push
  | 40 => .mathAndSwap push
  | 41 => .mathAbsSwap push
  | 42 => .mathOrSwap push
  | 43 => .mathXorSwap push
  | 44 => .mathAddSwap push
  | 45 => .mathSubSwap push
  | 46 => .mathSarSwap push
  | 47 => .mathRevSwap push
  | 48 => .mathLogAndSwap push
  | 49 => .mathEncodeSwap push
  | 50 => .mathLogOrSwap push
  | 51 => .mathDecodeSwap push
  | 52 => .mathMulSwap push
  | 53 => .mathMulHiSwap push
  | 54 => .mathDivSwap push
  | 55 => .mathModSwap push
  | 56 => .mathSqrtSwap push
  | 57 => .mathLtSwap push
  | 58 => .mathGtSwap push
  | 59 => .mathNeSwap push
  | 60 => .mathEqSwap push
  | 61 => .mathLeSwap push
  | 62 => .mathGeSwap push
  | _ => .mathLogNotSwap push

/-- The row of an assignment byte with math = 0: the family b[5:3] and its rule's selector (R233 to R236). -/
def decodeFamilyByte (b : Byte) : Instr :=
  let push := b.getLsbD 7
  let bit2 := b.getLsbD 2
  let bit1 := b.getLsbD 1
  let bit0 := b.getLsbD 0
  match (b.extractLsb' 3 3).toNat with
  | 0 => if bit1 then .assignRepeatCompare push bit2 bit0 else .assignWrite push bit2 bit0
  | 1 => if bit2 then .assignRandomReverse push bit1 bit0 else .assignRandomForward push bit1 bit0
  | 2 => if bit2 then .assignSignExtendWord push bit1 bit0 else .assignSignExtendByte push bit1 bit0
  | 3 => if bit2 then .assignPostSet push bit1 bit0 else .assignPostClear push bit1 bit0
  | 4 =>
    if bit2 then (if bit1 then .assignPreIncLong push bit0 else .assignPreIncWord push bit0)
    else if bit1 then .assignPreIncByte push bit0 else .assignPreIncBit push bit0
  | 5 =>
    if bit2 then (if bit1 then .assignPostIncLong push bit0 else .assignPostIncWord push bit0)
    else if bit1 then .assignPostIncByte push bit0 else .assignPostIncBit push bit0
  | 6 =>
    if bit2 then (if bit1 then .assignPreDecLong push bit0 else .assignPreDecWord push bit0)
    else if bit1 then .assignPreDecByte push bit0 else .assignPreDecBit push bit0
  | _ =>
    if bit2 then (if bit1 then .assignPostDecLong push bit0 else .assignPostDecWord push bit0)
    else if bit1 then .assignPostDecByte push bit0 else .assignPostDecBit push bit0

/-- The row of an assignment byte: the math flag b[6] chooses the path (R230). -/
def decodeAssignByte (b : Byte) : Instr :=
  if b.getLsbD 6 then decodeMathByte b else decodeFamilyByte b

/-- The row of a packed-literal byte: malformed when it is 0x80 or more (R213, R214). -/
def decodePackedLiteralByte (b : Byte) : Instr :=
  if b.getLsbD 7 then .operandPackedLiteralMalformed (b.extractLsb' 0 7)
  else .operandPackedLiteral (b.getLsbD 6) (b.getLsbD 5) (b.extractLsb' 0 5)

/-- Why the decoder gives no instruction: the form needs `needed` bytes and fewer are there (R82, R219). It is the
only reason: no byte and no opcode is illegal (R85, R281, R300). -/
inductive DecodeReject where
  | truncated (needed : Nat)
deriving DecidableEq, Repr

/-- An offset form: 1 byte when b0[7] = 0, else 2 (R82). -/
def decodeOffset (short : BitVec 7 → Instr) (long : BitVec 7 → Byte → Instr) :
    List Byte → Except DecodeReject (Instr × List Byte)
  | [] => .error (.truncated 1)
  | b0 :: rest =>
    if b0.getLsbD 7 then
      match rest with
      | [] => .error (.truncated 2)
      | b1 :: rest' => .ok (long (b0.extractLsb' 0 7) b1, rest')
    else .ok (short (b0.extractLsb' 0 7), rest)

/-- The instruction a bytecode entry point reads from the bytes that stand at its cursor, and the bytes after it.
Total on any bytes. -/
def decodeBytes (e : ByteEntry) (bs : List Byte) : Except DecodeReject (Instr × List Byte) :=
  match e with
  | .signedOffset => decodeOffset .operandSignedOffset1 .operandSignedOffset2 bs
  | .signedPackedOffset => decodeOffset .operandSignedPackedOffset1 .operandSignedPackedOffset2 bs
  | .packedOffset => decodeOffset .operandPackedOffset1 .operandPackedOffset2 bs
  | .packedLiteral =>
    match bs with
    | b :: rest => .ok (decodePackedLiteralByte b, rest)
    | [] => .error (.truncated 1)
  | .word =>
    match bs with
    | b0 :: b1 :: rest => .ok (.operandWord b0 b1, rest)
    | _ => .error (.truncated 2)
  | .nearLong =>
    match bs with
    | b0 :: b1 :: b2 :: rest => .ok (.operandNearLong b0 b1 b2, rest)
    | _ => .error (.truncated 3)
  | .long =>
    match bs with
    | b0 :: b1 :: b2 :: b3 :: rest => .ok (.operandLong b0 b1 b2 b3, rest)
    | _ => .error (.truncated 4)
  | .assignment =>
    match bs with
    | b :: rest => .ok (decodeAssignByte b, rest)
    | [] => .error (.truncated 1)
  | .memoryOperation =>
    match bs with
    | b :: rest => .ok (decodeMemopByte b, rest)
    | [] => .error (.truncated 1)

/-- An input of a decode call: an opcode, or bytes presented to one bytecode entry point (R70). -/
inductive Encoding where
  | opcode (op : Opcode)
  | stream (entry : ByteEntry) (bytes : List Byte)
deriving DecidableEq, Repr

/-- The decoder: the instruction of an input and the bytes it leaves. -/
def decode : Encoding → Except DecodeReject (Instr × List Byte)
  | .opcode op => .ok (decodeAsm op, [])
  | .stream e bs => decodeBytes e bs

/-! ### The encoder -/

/-- The input that encodes an instruction; none for HUBOP, which no opcode selects (R86, R115). -/
def encode : Instr → Option Encoding
  | .asmRdbyte o => some (.opcode (fixedRWord 0#6 true o))
  | .asmWrbyte o => some (.opcode (fixedRWord 0#6 false o))
  | .asmRdword o => some (.opcode (fixedRWord 1#6 true o))
  | .asmWrword o => some (.opcode (fixedRWord 1#6 false o))
  | .asmRdlong o => some (.opcode (fixedRWord 2#6 true o))
  | .asmWrlong o => some (.opcode (fixedRWord 2#6 false o))
  | .asmClkset o => some (.opcode (hubWord 3#6 0#3 o))
  | .asmCogid o => some (.opcode (hubWord 3#6 1#3 o))
  | .asmCoginit o => some (.opcode (hubWord 3#6 2#3 o))
  | .asmCogstop o => some (.opcode (hubWord 3#6 3#3 o))
  | .asmLocknew o => some (.opcode (hubWord 3#6 4#3 o))
  | .asmLockret o => some (.opcode (hubWord 3#6 5#3 o))
  | .asmLockset o => some (.opcode (hubWord 3#6 6#3 o))
  | .asmLockclr o => some (.opcode (hubWord 3#6 7#3 o))
  | .asmHubop => none
  | .asmMul o => some (.opcode (fullWord 4#6 o))
  | .asmMuls o => some (.opcode (fullWord 5#6 o))
  | .asmEnc o => some (.opcode (fullWord 6#6 o))
  | .asmOnes o => some (.opcode (fullWord 7#6 o))
  | .asmRor o => some (.opcode (fullWord 8#6 o))
  | .asmRol o => some (.opcode (fullWord 9#6 o))
  | .asmShr o => some (.opcode (fullWord 10#6 o))
  | .asmShl o => some (.opcode (fullWord 11#6 o))
  | .asmRcr o => some (.opcode (fullWord 12#6 o))
  | .asmRcl o => some (.opcode (fullWord 13#6 o))
  | .asmSar o => some (.opcode (fullWord 14#6 o))
  | .asmRev o => some (.opcode (fullWord 15#6 o))
  | .asmMins o => some (.opcode (fullWord 16#6 o))
  | .asmMaxs o => some (.opcode (fullWord 17#6 o))
  | .asmMin o => some (.opcode (fullWord 18#6 o))
  | .asmMax o => some (.opcode (fullWord 19#6 o))
  | .asmMovs o => some (.opcode (fullWord 20#6 o))
  | .asmMovd o => some (.opcode (fullWord 21#6 o))
  | .asmMovi o => some (.opcode (fullWord 22#6 o))
  | .asmRet o => some (.opcode (retWord 23#6 o))
  | .asmJmp o => some (.opcode (fixedRWord 23#6 false o))
  | .asmJmpret o => some (.opcode (linkWord 23#6 false o))
  | .asmCall o => some (.opcode (linkWord 23#6 true o))
  | .asmAnd o => some (.opcode (fixedRWord 24#6 true o))
  | .asmTest o => some (.opcode (fixedRWord 24#6 false o))
  | .asmAndn o => some (.opcode (fixedRWord 25#6 true o))
  | .asmTestn o => some (.opcode (fixedRWord 25#6 false o))
  | .asmOr o => some (.opcode (fullWord 26#6 o))
  | .asmXor o => some (.opcode (fullWord 27#6 o))
  | .asmMuxc o => some (.opcode (fullWord 28#6 o))
  | .asmMuxnc o => some (.opcode (fullWord 29#6 o))
  | .asmMuxz o => some (.opcode (fullWord 30#6 o))
  | .asmMuxnz o => some (.opcode (fullWord 31#6 o))
  | .asmAdd o => some (.opcode (fullWord 32#6 o))
  | .asmSub o => some (.opcode (fixedRWord 33#6 true o))
  | .asmCmp o => some (.opcode (fixedRWord 33#6 false o))
  | .asmAddabs o => some (.opcode (fullWord 34#6 o))
  | .asmSubabs o => some (.opcode (fullWord 35#6 o))
  | .asmSumc o => some (.opcode (fullWord 36#6 o))
  | .asmSumnc o => some (.opcode (fullWord 37#6 o))
  | .asmSumz o => some (.opcode (fullWord 38#6 o))
  | .asmSumnz o => some (.opcode (fullWord 39#6 o))
  | .asmMov o => some (.opcode (fullWord 40#6 o))
  | .asmNeg o => some (.opcode (fullWord 41#6 o))
  | .asmAbs o => some (.opcode (fullWord 42#6 o))
  | .asmAbsneg o => some (.opcode (fullWord 43#6 o))
  | .asmNegc o => some (.opcode (fullWord 44#6 o))
  | .asmNegnc o => some (.opcode (fullWord 45#6 o))
  | .asmNegz o => some (.opcode (fullWord 46#6 o))
  | .asmNegnz o => some (.opcode (fullWord 47#6 o))
  | .asmCmps o => some (.opcode (fullWord 48#6 o))
  | .asmCmpsx o => some (.opcode (fullWord 49#6 o))
  | .asmAddx o => some (.opcode (fullWord 50#6 o))
  | .asmSubx o => some (.opcode (fixedRWord 51#6 true o))
  | .asmCmpx o => some (.opcode (fixedRWord 51#6 false o))
  | .asmAdds o => some (.opcode (fullWord 52#6 o))
  | .asmSubs o => some (.opcode (fullWord 53#6 o))
  | .asmAddsx o => some (.opcode (fullWord 54#6 o))
  | .asmSubsx o => some (.opcode (fullWord 55#6 o))
  | .asmCmpsub o => some (.opcode (fullWord 56#6 o))
  | .asmDjnz o => some (.opcode (fullWord 57#6 o))
  | .asmTjnz o => some (.opcode (fullWord 58#6 o))
  | .asmTjz o => some (.opcode (fullWord 59#6 o))
  | .asmWaitpeq o => some (.opcode (fullWord 60#6 o))
  | .asmWaitpne o => some (.opcode (fullWord 61#6 o))
  | .asmWaitcnt o => some (.opcode (fullWord 62#6 o))
  | .asmWaitvid o => some (.opcode (fullWord 63#6 o))
  | .memopUnknownA0 sel index => some (.stream .memoryOperation [memopByte 0#3 sel index])
  | .memopUnknownA1 sel index => some (.stream .memoryOperation [memopByte 1#3 sel index])
  | .memopUnknownA2 sel index => some (.stream .memoryOperation [memopByte 2#3 sel index])
  | .memopUnknownA3 sel index => some (.stream .memoryOperation [memopByte 3#3 sel index])
  | .memopPushA4 sel index => some (.stream .memoryOperation [memopByte 4#3 sel index])
  | .memopPopA5 sel index => some (.stream .memoryOperation [memopByte 5#3 sel index])
  | .memopEffectA6 sel index => some (.stream .memoryOperation [memopByte 6#3 sel index])
  | .memopUnknownA7 sel index => some (.stream .memoryOperation [memopByte 7#3 sel index])
  | .assignWrite push bit2 bit0 => some (.stream .assignment [assignByte push 0#3 bit2 false bit0])
  | .assignRepeatCompare push bit2 bit0 => some (.stream .assignment [assignByte push 0#3 bit2 true bit0])
  | .assignRandomForward push bit1 bit0 => some (.stream .assignment [assignByte push 1#3 false bit1 bit0])
  | .assignRandomReverse push bit1 bit0 => some (.stream .assignment [assignByte push 1#3 true bit1 bit0])
  | .assignSignExtendByte push bit1 bit0 => some (.stream .assignment [assignByte push 2#3 false bit1 bit0])
  | .assignSignExtendWord push bit1 bit0 => some (.stream .assignment [assignByte push 2#3 true bit1 bit0])
  | .assignPostClear push bit1 bit0 => some (.stream .assignment [assignByte push 3#3 false bit1 bit0])
  | .assignPostSet push bit1 bit0 => some (.stream .assignment [assignByte push 3#3 true bit1 bit0])
  | .assignPreIncBit push bit0 => some (.stream .assignment [assignByte push 4#3 false false bit0])
  | .assignPreIncByte push bit0 => some (.stream .assignment [assignByte push 4#3 false true bit0])
  | .assignPreIncWord push bit0 => some (.stream .assignment [assignByte push 4#3 true false bit0])
  | .assignPreIncLong push bit0 => some (.stream .assignment [assignByte push 4#3 true true bit0])
  | .assignPostIncBit push bit0 => some (.stream .assignment [assignByte push 5#3 false false bit0])
  | .assignPostIncByte push bit0 => some (.stream .assignment [assignByte push 5#3 false true bit0])
  | .assignPostIncWord push bit0 => some (.stream .assignment [assignByte push 5#3 true false bit0])
  | .assignPostIncLong push bit0 => some (.stream .assignment [assignByte push 5#3 true true bit0])
  | .assignPreDecBit push bit0 => some (.stream .assignment [assignByte push 6#3 false false bit0])
  | .assignPreDecByte push bit0 => some (.stream .assignment [assignByte push 6#3 false true bit0])
  | .assignPreDecWord push bit0 => some (.stream .assignment [assignByte push 6#3 true false bit0])
  | .assignPreDecLong push bit0 => some (.stream .assignment [assignByte push 6#3 true true bit0])
  | .assignPostDecBit push bit0 => some (.stream .assignment [assignByte push 7#3 false false bit0])
  | .assignPostDecByte push bit0 => some (.stream .assignment [assignByte push 7#3 false true bit0])
  | .assignPostDecWord push bit0 => some (.stream .assignment [assignByte push 7#3 true false bit0])
  | .assignPostDecLong push bit0 => some (.stream .assignment [assignByte push 7#3 true true bit0])
  | .mathRor push => some (.stream .assignment [mathByte push 0#6])
  | .mathRol push => some (.stream .assignment [mathByte push 1#6])
  | .mathShr push => some (.stream .assignment [mathByte push 2#6])
  | .mathShl push => some (.stream .assignment [mathByte push 3#6])
  | .mathMin push => some (.stream .assignment [mathByte push 4#6])
  | .mathMax push => some (.stream .assignment [mathByte push 5#6])
  | .mathNeg push => some (.stream .assignment [mathByte push 6#6])
  | .mathBitNot push => some (.stream .assignment [mathByte push 7#6])
  | .mathAnd push => some (.stream .assignment [mathByte push 8#6])
  | .mathAbs push => some (.stream .assignment [mathByte push 9#6])
  | .mathOr push => some (.stream .assignment [mathByte push 10#6])
  | .mathXor push => some (.stream .assignment [mathByte push 11#6])
  | .mathAdd push => some (.stream .assignment [mathByte push 12#6])
  | .mathSub push => some (.stream .assignment [mathByte push 13#6])
  | .mathSar push => some (.stream .assignment [mathByte push 14#6])
  | .mathRev push => some (.stream .assignment [mathByte push 15#6])
  | .mathLogAnd push => some (.stream .assignment [mathByte push 16#6])
  | .mathEncode push => some (.stream .assignment [mathByte push 17#6])
  | .mathLogOr push => some (.stream .assignment [mathByte push 18#6])
  | .mathDecode push => some (.stream .assignment [mathByte push 19#6])
  | .mathMul push => some (.stream .assignment [mathByte push 20#6])
  | .mathMulHi push => some (.stream .assignment [mathByte push 21#6])
  | .mathDiv push => some (.stream .assignment [mathByte push 22#6])
  | .mathMod push => some (.stream .assignment [mathByte push 23#6])
  | .mathSqrt push => some (.stream .assignment [mathByte push 24#6])
  | .mathLt push => some (.stream .assignment [mathByte push 25#6])
  | .mathGt push => some (.stream .assignment [mathByte push 26#6])
  | .mathNe push => some (.stream .assignment [mathByte push 27#6])
  | .mathEq push => some (.stream .assignment [mathByte push 28#6])
  | .mathLe push => some (.stream .assignment [mathByte push 29#6])
  | .mathGe push => some (.stream .assignment [mathByte push 30#6])
  | .mathLogNot push => some (.stream .assignment [mathByte push 31#6])
  | .mathRorSwap push => some (.stream .assignment [mathByte push 32#6])
  | .mathRolSwap push => some (.stream .assignment [mathByte push 33#6])
  | .mathShrSwap push => some (.stream .assignment [mathByte push 34#6])
  | .mathShlSwap push => some (.stream .assignment [mathByte push 35#6])
  | .mathMinSwap push => some (.stream .assignment [mathByte push 36#6])
  | .mathMaxSwap push => some (.stream .assignment [mathByte push 37#6])
  | .mathNegSwap push => some (.stream .assignment [mathByte push 38#6])
  | .mathBitNotSwap push => some (.stream .assignment [mathByte push 39#6])
  | .mathAndSwap push => some (.stream .assignment [mathByte push 40#6])
  | .mathAbsSwap push => some (.stream .assignment [mathByte push 41#6])
  | .mathOrSwap push => some (.stream .assignment [mathByte push 42#6])
  | .mathXorSwap push => some (.stream .assignment [mathByte push 43#6])
  | .mathAddSwap push => some (.stream .assignment [mathByte push 44#6])
  | .mathSubSwap push => some (.stream .assignment [mathByte push 45#6])
  | .mathSarSwap push => some (.stream .assignment [mathByte push 46#6])
  | .mathRevSwap push => some (.stream .assignment [mathByte push 47#6])
  | .mathLogAndSwap push => some (.stream .assignment [mathByte push 48#6])
  | .mathEncodeSwap push => some (.stream .assignment [mathByte push 49#6])
  | .mathLogOrSwap push => some (.stream .assignment [mathByte push 50#6])
  | .mathDecodeSwap push => some (.stream .assignment [mathByte push 51#6])
  | .mathMulSwap push => some (.stream .assignment [mathByte push 52#6])
  | .mathMulHiSwap push => some (.stream .assignment [mathByte push 53#6])
  | .mathDivSwap push => some (.stream .assignment [mathByte push 54#6])
  | .mathModSwap push => some (.stream .assignment [mathByte push 55#6])
  | .mathSqrtSwap push => some (.stream .assignment [mathByte push 56#6])
  | .mathLtSwap push => some (.stream .assignment [mathByte push 57#6])
  | .mathGtSwap push => some (.stream .assignment [mathByte push 58#6])
  | .mathNeSwap push => some (.stream .assignment [mathByte push 59#6])
  | .mathEqSwap push => some (.stream .assignment [mathByte push 60#6])
  | .mathLeSwap push => some (.stream .assignment [mathByte push 61#6])
  | .mathGeSwap push => some (.stream .assignment [mathByte push 62#6])
  | .mathLogNotSwap push => some (.stream .assignment [mathByte push 63#6])
  | .operandSignedOffset1 v => some (.stream .signedOffset [offsetByte false v])
  | .operandSignedOffset2 hi lo => some (.stream .signedOffset [offsetByte true hi, lo])
  | .operandSignedPackedOffset1 v => some (.stream .signedPackedOffset [offsetByte false v])
  | .operandSignedPackedOffset2 hi lo => some (.stream .signedPackedOffset [offsetByte true hi, lo])
  | .operandPackedLiteral complement decrement exponent => some (.stream .packedLiteral [packedLiteralByte complement decrement exponent])
  | .operandPackedLiteralMalformed low => some (.stream .packedLiteral [offsetByte true low])
  | .operandPackedOffset1 v => some (.stream .packedOffset [offsetByte false v])
  | .operandPackedOffset2 hi lo => some (.stream .packedOffset [offsetByte true hi, lo])
  | .operandWord b0 b1 => some (.stream .word [b0, b1])
  | .operandNearLong b0 b1 b2 => some (.stream .nearLong [b0, b1, b2])
  | .operandLong b0 b1 b2 b3 => some (.stream .long [b0, b1, b2, b3])

/-! ### The opcode table's numbering of words -/

/-- The 32-bit opcode a caller forms from four image bytes, the least significant first (R53, decision D18): a
property of the caller, not of the block. -/
def opcodeOfBytes (b0 b1 b2 b3 : Byte) : Opcode := b3 ++ b2 ++ b1 ++ b0

/-- Byte `k` of a table word: bits 8k + 7 down to 8k. -/
def tableByte (w k : Nat) : Byte := BitVec.ofNat 8 (w >>> (8 * k))

/-- The input a table word of `nbits` bits stands for, every bit above `nbits` being 0. The byte rows of the table
overlap, since the caller chooses the entry point (R84), so ONE entry is chosen for each length: an 8-bit word is
presented to `decode_assignment`, 16 bits to the word rule, 24 to the near-long rule, 32 bits are an opcode.
DESIGN CHOICE, safe: notes/assumptions/10.md. -/
def tableEncoding (nbits w : Nat) : Option Encoding :=
  let v := w % 2 ^ nbits
  let b0 := tableByte v 0
  let b1 := tableByte v 1
  let b2 := tableByte v 2
  let b3 := tableByte v 3
  match nbits with
  | 8 => some (.stream .assignment [b0, b1, b2, b3])
  | 16 => some (.stream .word [b0, b1, b2, b3])
  | 24 => some (.stream .nearLong [b0, b1, b2, b3])
  | 32 => some (.opcode (opcodeOfBytes b0 b1 b2 b3))
  | _ => none

/-- The instruction the decoder reads from a table word. -/
def decodeTableWord (nbits w : Nat) : Option Instr :=
  match tableEncoding nbits w with
  | none => none
  | some enc =>
    match decode enc with
    | .ok (i, _) => some i
    | .error _ => none

end Sys2Proof
end

