-- ==== Sys2Proof/Machine/Tables.lean ====
section
/-! DEFINITION. The contents of the constant tables (R22): the spec's default for every OPEN parameter (R8), and the
constraints the spec puts on any contents. PRESUMED contents: notes/assumptions/14.md to 20.md. -/

namespace Sys2Proof.Machine

/-! ### `ASM_TABLE` -/

/-- The default attributes of a variant that honors Z and C (R141); the other four are given. -/
def variantOf (name : String) (hasDest hasSrc honorsR srcLiteral : Bool) : Variant :=
  { name := name, hasDest := hasDest, hasSrc := hasSrc, honorsZ := true, honorsC := true, honorsR := honorsR,
    srcLiteral := srcLiteral }

/-- A Normal entry with the default attributes (R141). -/
def normalEntry (name : String) : AsmEntry := .normal (variantOf name true true true true)

/-- A WR entry with the default attributes: the writing variant first (R113, R141). -/
def wrEntry (name0 name1 : String) : AsmEntry :=
  .wr (variantOf name0 true true false true) (variantOf name1 true true false true)

/-- Hub variants 0 to 7 have no source operand: SRC[2:0] is their selector (R141). -/
def hubVariant (name : String) : Variant := variantOf name true false true false

/-- The Hub entry: nine variants, HUBOP the ninth (R145, R115). -/
def hubEntry : AsmEntry :=
  .hub #v[hubVariant "CLKSET", hubVariant "COGID", hubVariant "COGINIT", hubVariant "COGSTOP", hubVariant "LOCKNEW",
    hubVariant "LOCKRET", hubVariant "LOCKSET", hubVariant "LOCKCLR", variantOf "HUBOP" true true true true]

/-- The Jump entry (R116, R141, R165). -/
def jumpEntry : AsmEntry :=
  .jump (variantOf "JMP" false true false true) (variantOf "RET" false false false false)
    (variantOf "JMPRET" true true false true) (variantOf "CALL" false true false true)

/-- INSTR 0 to 15 (R142 to R157). -/
def asmEntries0 : List AsmEntry :=
  [wrEntry "RDBYTE" "WRBYTE", wrEntry "RDWORD" "WRWORD", wrEntry "RDLONG" "WRLONG", hubEntry,
   normalEntry "MUL", normalEntry "MULS", normalEntry "ENC", normalEntry "ONES",
   normalEntry "ROR", normalEntry "ROL", normalEntry "SHR", normalEntry "SHL",
   normalEntry "RCR", normalEntry "RCL", normalEntry "SAR", normalEntry "REV"]

/-- INSTR 16 to 31 (R158 to R173). -/
def asmEntries1 : List AsmEntry :=
  [normalEntry "MINS", normalEntry "MAXS", normalEntry "MIN", normalEntry "MAX",
   normalEntry "MOVS", normalEntry "MOVD", normalEntry "MOVI", jumpEntry,
   wrEntry "AND" "TEST", wrEntry "ANDN" "TESTN", normalEntry "OR", normalEntry "XOR",
   normalEntry "MUXC", normalEntry "MUXNC", normalEntry "MUXZ", normalEntry "MUXNZ"]

/-- INSTR 32 to 47 (R174 to R189). -/
def asmEntries2 : List AsmEntry :=
  [normalEntry "ADD", wrEntry "SUB" "CMP", normalEntry "ADDABS", normalEntry "SUBABS",
   normalEntry "SUMC", normalEntry "SUMNC", normalEntry "SUMZ", normalEntry "SUMNZ",
   normalEntry "MOV", normalEntry "NEG", normalEntry "ABS", normalEntry "ABSNEG",
   normalEntry "NEGC", normalEntry "NEGNC", normalEntry "NEGZ", normalEntry "NEGNZ"]

/-- INSTR 48 to 63 (R190 to R205). -/
def asmEntries3 : List AsmEntry :=
  [normalEntry "CMPS", normalEntry "CMPSX", normalEntry "ADDX", wrEntry "SUBX" "CMPX",
   normalEntry "ADDS", normalEntry "SUBS", normalEntry "ADDSX", normalEntry "SUBSX",
   normalEntry "CMPSUB", normalEntry "DJNZ", normalEntry "TJNZ", normalEntry "TJZ",
   normalEntry "WAITPEQ", normalEntry "WAITPNE", normalEntry "WAITCNT", normalEntry "WAITVID"]

/-- The default `ASM_TABLE`: the Propeller 1 opcode map (R83, R140). -/
def defaultAsm : Vector AsmEntry 64 := ⟨⟨asmEntries0 ++ asmEntries1 ++ asmEntries2 ++ asmEntries3⟩, rfl⟩

/-! ### The other tables -/

/-- The default `COND_SYNONYMS`, index 0 first (R120). -/
def defaultCond : Vector (List String) 16 :=
  #v[["IF_NEVER"],
     ["IF_NC_AND_NZ", "IF_NZ_AND_NC", "IF_A"],
     ["IF_NC_AND_Z", "IF_Z_AND_NC"],
     ["IF_NC", "IF_AE"],
     ["IF_C_AND_NZ", "IF_NZ_AND_C"],
     ["IF_NZ", "IF_NE"],
     ["IF_C_NE_Z", "IF_Z_NE_C"],
     ["IF_NC_OR_NZ", "IF_NZ_OR_NC"],
     ["IF_C_AND_Z", "IF_Z_AND_C"],
     ["IF_C_EQ_Z", "IF_Z_EQ_C"],
     ["IF_Z", "IF_E"],
     ["IF_NC_OR_Z", "IF_Z_OR_NC"],
     ["IF_C", "IF_B"],
     ["IF_C_OR_NZ", "IF_NZ_OR_C"],
     ["IF_C_OR_Z", "IF_Z_OR_C", "IF_BE"],
     ["IF_ALWAYS"]]

def readOnly (name : String) : SpecialReg := { name := name, readable := true, writable := false }

def readWrite (name : String) : SpecialReg := { name := name, readable := true, writable := true }

/-- The default `SPECIAL_REGS`: entry i is address `SPECIAL_BASE + i` (R25). -/
def defaultSpecial : Vector SpecialReg 16 :=
  #v[readOnly "PAR", readOnly "CNT", readOnly "INA", readOnly "INB",
     readWrite "OUTA", readWrite "OUTB", readWrite "DIRA", readWrite "DIRB",
     readWrite "CTRA", readWrite "CTRB", readWrite "FRQA", readWrite "FRQB",
     readWrite "PHSA", readWrite "PHSB", readWrite "VCFG", readWrite "VSCL"]

/-- Slot `i`, under its free name (R27, decision D16). -/
def slotOf (i : Nat) : SlotReg := { name := Config.slotRegName i }

/-- `SLOT_REGS`: sixteen slots with free names (R27). -/
def defaultSlots : Vector SlotReg 16 :=
  #v[slotOf 0, slotOf 1, slotOf 2, slotOf 3, slotOf 4, slotOf 5, slotOf 6, slotOf 7,
     slotOf 8, slotOf 9, slotOf 10, slotOf 11, slotOf 12, slotOf 13, slotOf 14, slotOf 15]

/-- A family variant with no trailing operand (R237). -/
def plainVariant (name : String) : AssignVariant := { name := name, operandRule := .none }

/-- The default `ASSIGN_FAMILIES` (R240 to R247). -/
def defaultFamilies : Vector AssignFamily 8 :=
  #v[{ rule := .writeRepeat,
       variants := [plainVariant "WRITE", { name := "REPEAT_COMPARE", operandRule := .signedOffset }] },
     { rule := .normal, variants := [plainVariant "RANDOM_FORWARD", plainVariant "RANDOM_REVERSE"] },
     { rule := .normal, variants := [plainVariant "SIGN_EXTEND_BYTE", plainVariant "SIGN_EXTEND_WORD"] },
     { rule := .normal, variants := [plainVariant "POST_CLEAR", plainVariant "POST_SET"] },
     { rule := .size, variants := [plainVariant "PRE_INC_BIT", plainVariant "PRE_INC_BYTE",
                                   plainVariant "PRE_INC_WORD", plainVariant "PRE_INC_LONG"] },
     { rule := .size, variants := [plainVariant "POST_INC_BIT", plainVariant "POST_INC_BYTE",
                                   plainVariant "POST_INC_WORD", plainVariant "POST_INC_LONG"] },
     { rule := .size, variants := [plainVariant "PRE_DEC_BIT", plainVariant "PRE_DEC_BYTE",
                                   plainVariant "PRE_DEC_WORD", plainVariant "PRE_DEC_LONG"] },
     { rule := .size, variants := [plainVariant "POST_DEC_BIT", plainVariant "POST_DEC_BYTE",
                                   plainVariant "POST_DEC_WORD", plainVariant "POST_DEC_LONG"] }]

/-- The names of the math operators, operator 0 first (R249 to R280). -/
def mathNames : List String :=
  ["ROR", "ROL", "SHR", "SHL", "MIN", "MAX", "NEG", "BIT_NOT",
   "AND", "ABS", "OR", "XOR", "ADD", "SUB", "SAR", "REV",
   "LOG_AND", "ENCODE", "LOG_OR", "DECODE", "MUL", "MUL_HI", "DIV", "MOD",
   "SQRT", "LT", "GT", "NE", "EQ", "LE", "GE", "LOG_NOT"]

/-- The entries of the named operators from number `m` on, with one swap flag (R248). -/
def mathEntries (swap : Bool) (m : Nat) : List String → List MathEntry
  | [] => []
  | name :: names =>
    { name := name, mathop := BitVec.ofNat 5 m, swap := swap, operandRule := .none } :: mathEntries swap (m + 1) names

/-- The default `MATH_OPS`: entries 32 to 63 are entries 0 to 31 with swap = 1 (R248). -/
def defaultMathOps : Vector MathEntry 64 := ⟨⟨mathEntries false 0 mathNames ++ mathEntries true 0 mathNames⟩, rfl⟩

/-- The default `MEMOP_ACTION_CLASS`: 4 Push, 5 Pop, 6 Effect, every other code Unknown (R293, R294). -/
def defaultMemopClass : Vector ActionClass 16 :=
  #v[.unknown, .unknown, .unknown, .unknown, .push, .pop, .effect, .unknown,
     .unknown, .unknown, .unknown, .unknown, .unknown, .unknown, .unknown, .unknown]

/-- The spec's default contents of every table (R8). -/
def defaultTables : Tables :=
  { asm := defaultAsm, cond := defaultCond, special := defaultSpecial, slots := defaultSlots,
    families := defaultFamilies, mathOps := defaultMathOps, memopClass := defaultMemopClass,
    memopRegBase := 0x1E0#9 }

/-! ### The constraints on any contents -/

/-- The kind of an entry (R23). -/
def entryKind : AsmEntry → Kind
  | .normal _ => .normal
  | .wr _ _ => .wr
  | .hub _ => .hub
  | .jump _ _ _ _ => .jump

/-- The ordered variants of an entry (R23). -/
def entryVariants : AsmEntry → List Variant
  | .normal v => [v]
  | .wr v0 v1 => [v0, v1]
  | .hub vs => vs.toList
  | .jump v0 v1 v2 v3 => [v0, v1, v2, v3]

/-- Every variant has a non-empty name (R23, R85). -/
def namesPresent (e : AsmEntry) : Bool := (entryVariants e).all fun v => v.name != ""

/-- The seven WR pairs the source names, the writing variant first (R83, R140). -/
def wrPairs : List (List String) :=
  [["SUB", "CMP"], ["AND", "TEST"], ["ANDN", "TESTN"], ["SUBX", "CMPX"], ["RDBYTE", "WRBYTE"],
   ["RDWORD", "WRWORD"], ["RDLONG", "WRLONG"]]

/-- The nine Hub variants in order (R83, R114, R115). -/
def hubNames : List String :=
  ["CLKSET", "COGID", "COGINIT", "COGSTOP", "LOCKNEW", "LOCKRET", "LOCKSET", "LOCKCLR", "HUBOP"]

/-- The names of the entries of one kind, each entry's in order. -/
def kindNames (k : Kind) (es : List AsmEntry) : List (List String) :=
  (es.filter fun e => entryKind e == k).map fun e => (entryVariants e).map (·.name)

/-- The Jump attributes the source gives: JMP has no destination and a register or literal source, RET no operands
(R116, R141). -/
def jumpAttrs : AsmEntry → Bool
  | .jump v0 v1 _ _ => !v0.hasDest && v0.hasSrc && v0.srcLiteral && !v1.hasDest && !v1.hasSrc
  | _ => true

/-- What the source settles of `ASM_TABLE` (R8, R23, R140): the names are present, 55 entries are Normal, the seven WR
pairs, the Hub and the Jump entry are the named ones, at any INSTR. -/
def asmWf (t : Tables) : Bool :=
  let es := t.asm.toList
  es.all namesPresent && es.all jumpAttrs
    && (kindNames .normal es).length == 55
    && (kindNames .wr es).length == 7 && wrPairs.all (fun p => (kindNames .wr es).contains p)
    && kindNames .hub es == [hubNames]
    && kindNames .jump es == [["JMP", "RET", "JMPRET", "CALL"]]

/-- The synonyms of a condition that are not blank (R121). -/
def realSynonyms (l : List String) : List String := l.filter fun n => n != ""

/-- The constraints of R121 on `COND_SYNONYMS`: one to three synonyms each; CON 0 and 15 have at most two, exactly one of
them not blank, which is NOP or IF_NEVER for CON 0 and IF_ALWAYS for CON 15 (notes/assumptions/16.md); the others have at
least two; the two named spellings share an entry. -/
def condWf (t : Tables) : Bool :=
  let ls := t.cond.toList
  ls.all (fun l => 1 ≤ l.length && l.length ≤ 3)
    && (ls.drop 1).dropLast.all (fun l => 2 ≤ l.length)
    && (ls.take 1 ++ ls.drop 15).all (fun l => l.length ≤ 2)
    && (ls.take 1).all (fun l => realSynonyms l == ["NOP"] || realSynonyms l == ["IF_NEVER"])
    && (ls.drop 15).all (fun l => realSynonyms l == ["IF_ALWAYS"])
    && ls.any (fun l => l.contains "IF_NC_AND_NZ" && l.contains "IF_NZ_AND_NC")

/-- The constraints of R239 on `ASSIGN_FAMILIES`: one to four variants each, with names. -/
def familiesWf (t : Tables) : Bool :=
  t.families.toList.all fun f =>
    1 ≤ f.variants.length && f.variants.length ≤ 4 && f.variants.all (fun v => v.name != "")

/-- How many variants a family's rule can select (R234, R235, R236). -/
def selectable : FamilyRule → Nat
  | .writeRepeat => 2
  | .normal => 2
  | .size => 4

/-- No family has the gap that `NoVariant` reports (R236): a property of the contents, not a constraint. -/
def familiesFull (t : Tables) : Bool :=
  t.families.toList.all fun f => selectable f.rule ≤ f.variants.length

/-- Entry `32 s + m` is operator m with swap s and no operand rule (R237, R248). -/
def mathOpsWf (t : Tables) : Bool :=
  t.mathOps.toList.map (fun e => (e.mathop, e.swap, e.operandRule))
    == (defaultMathOps.toList.map fun e => (e.mathop, e.swap, e.operandRule))

/-- The 32 synthesized addresses are 9-bit values without wrapping (R59, R292). -/
def memopWf (t : Tables) : Bool := t.memopRegBase.toNat + 31 < 512

/-- The constraints the spec puts on the tables, whatever their contents (R8, R23, R121, R239, R248). -/
def tablesWf (t : Tables) : Bool :=
  asmWf t && condWf t && familiesWf t && mathOpsWf t && memopWf t

end Sys2Proof.Machine
end

