-- ==== Sys2Proof/Machine/State.lean ====
section
/-! DEFINITION. The state of the machine as plain data: the block's tables and transient latches (10_state.md), the
external stream it reads (20_memory.md R31, R50), and the requests of its callers; the records and outcomes it
delivers; its state after reset. -/

namespace Sys2Proof.Machine

/-! ### Output records (10_state.md section 6) -/

/-- The assembly record (R32). Every field is a function of the latched opcode and the tables (R28). -/
structure DecodedInstruction where
  opcode : Opcode
  instr : BitVec 6
  z : Bool
  c : Bool
  r : Bool
  i : Bool
  con : BitVec 4
  dest : RegAddr
  src : RegAddr
  kind : Kind
  /-- 0 to 8 (R32) -/
  variantIndex : Fin 9
  /-- the resolved variant with its attributes, resolved eagerly (R30) -/
  variant : Variant
  wzEff : Bool
  wcEff : Bool
  wrEff : Bool
  nrEff : Bool
  immEff : Bool
  /-- the synonym list of CON (R120) -/
  conditions : List String
deriving DecidableEq, Repr

/-- The unpacker's record (R33). `malformed` is the diagnostic bit of the packed-literal rule only (decision D23):
the other rules have none. -/
structure DecodedValue where
  value : Value
  consumed : Nat
  malformed : Option Bool
deriving DecidableEq, Repr

/-- The sub-fields of an assignment byte, all reported whatever the path (R231). -/
structure AssignFields where
  push : Bool
  math : Bool
  family : BitVec 3
  swap : Bool
  mathop : BitVec 5
  bit2 : Bool
  bit1 : Bool
  size : BitVec 2
deriving DecidableEq, Repr

/-- The resolved operator of an assignment byte: a math-operator entry or a family variant (R34). -/
inductive OperatorEntry where
  | math (e : MathEntry)
  | family (v : AssignVariant)
deriving DecidableEq, Repr

/-- The record of an assignment byte (R34, R230). -/
structure ParsedAssignment where
  byte : Byte
  fields : AssignFields
  isMath : Bool
  op : OperatorEntry
  /-- the operand rule the caller must run next (R237) -/
  next : OperandRule
  consumed : Nat
deriving DecidableEq, Repr

/-- A looked-up register with its index: a slot has no default name, so a model tells it by its index (R27, D16). -/
inductive RegisterEntry where
  | special (index : BitVec 4) (reg : SpecialReg)
  | slot (index : BitVec 4) (reg : SlotReg)
deriving DecidableEq, Repr

/-- The record of a memory-operation byte (R34, R290, R299). -/
structure ParsedMemoryOperation where
  byte : Byte
  addr : RegAddr
  sel : Bool
  index : BitVec 4
  action : BitVec 4
  actionClass : ActionClass
  reg : RegisterEntry
  consumed : Nat
deriving DecidableEq, Repr

/-- What a successful call delivers, by entry point (R15). -/
inductive Record where
  | instruction (d : DecodedInstruction)
  | value (v : DecodedValue)
  | assignment (a : ParsedAssignment)
  | memoryOperation (m : ParsedMemoryOperation)
  /-- the result of `resolve` (R110) -/
  | variant (index : Fin 9) (v : Variant)
  /-- the result of `cond_lookup` (R120) -/
  | conditions (synonyms : List String)
  /-- the result of `reg_lookup` (R124) -/
  | register (r : RegisterEntry)
deriving DecidableEq, Repr

/-- The outcome a call ends with (R12, R310), with what it records. -/
inductive CallOutcome where
  | success (r : Record)
  /-- the stream ended before an operand was read; `pulled` bytes were pulled before (R311) -/
  | streamExhausted (pulled : Nat)
  /-- the stream handle was absent; nothing was read (R312) -/
  | invalidArgument
  /-- the family of this byte lacks the selected variant; one byte was consumed (R314) -/
  | noVariant (byte : Byte)
deriving DecidableEq, Repr

/-! ### Requests of the callers -/

/-- The register table a `reg_lookup` names (R124). -/
inductive RegTable where
  | special | slot
deriving DecidableEq, Repr

/-- A call of an entry point with its arguments (R15). A stream handle is an optional value (R51). -/
inductive Call where
  | assembly (op : Opcode)
  | bytecode (entry : ByteEntry) (handle : Option Nat)
  | resolve (instr : BitVec 6) (zcri : BitVec 4) (src : RegAddr)
  | condLookup (con : BitVec 4)
  | regLookup (table : RegTable) (addr : RegAddr)
deriving DecidableEq, Repr

/-- What a decoding sequence asks for next: a call, or something the outside world does between calls.
DESIGN CHOICE, safe: notes/assumptions/13.md. -/
inductive Request where
  | call (c : Call)
  /-- a write to the memory image by its owner (R65) -/
  | writeImage (addr : Nat) (byte : Byte)
  /-- a new stream with its cursor at an address (R342) -/
  | openStream (start : Nat)
  /-- the block's reset input (R340) -/
  | resetBlock
deriving DecidableEq, Repr

/-! ### The state -/

/-- The memory image: (address, byte) pairs, addresses strictly rising. An address it does not list has NO byte: a
stream ends there (R50). DESIGN CHOICE, safe: notes/assumptions/3.md. -/
abbrev Memory := List Host.Cell

structure State where
  /-- the constant tables (R22); no operation writes them -/
  tables : Tables
  /-- the opcode latched by an assembly call in progress (R28) -/
  latch : Option Opcode
  /-- the stream handle of the call in progress (R51) -/
  handle : Option Nat
  /-- the bytes pulled by a bytecode operation in progress, in pull order (R29); their count is k -/
  held : Option (List Byte)
  /-- the outcome of the last finished call, for its caller to take (R318); the next call clears it (R319) -/
  outcome : Option CallOutcome
  /-- the memory image under the streams, not owned by the block (R31) -/
  image : Memory
  /-- the cursor of each open stream, by handle; not owned by the block (R31, R50) -/
  cursors : List Nat
  /-- the decoding sequences, each with its requests in order (R62): the model's own field -/
  sequences : List (List Request)
deriving DecidableEq, Repr

/-- The machine never faults: the block's errors are outcomes delivered to the caller, and the one fatal condition the
source names, an unknown dispatch kind, cannot be written (R315, decision D24). Safe: notes/assumptions/23.md. -/
inductive Fault where
deriving DecidableEq, Repr

/-- Why a step gives no next state. -/
inductive Refusal where
  /-- an instruction without a meaning; raised by no arm of exec; safe -/
  | notModelled (mnemonic : String)
  /-- raised by the meaning of the HUBOP row: no opcode selects Hub variant 8, so no call runs it (R86, R115, I1);
  safe -/
  | unreachableVariant
  /-- raised by `reg_lookup` for an address outside the table's window (R125, decision D29); safe -/
  | lookupOutsideWindow
  /-- raised by the step when two sequences hold one cursor (R62, R343, decision D19); safe -/
  | sharedCursor
deriving DecidableEq, Repr

/-- The machine after reset (R340): the tables hold their contents, no latch, no operation, no outcome. The streams and
the requests are the outside world's: none is open and none is made (DESIGN CHOICE: notes/assumptions/2.md, 3.md,
4.md). -/
def State.reset : State :=
  { tables := defaultTables, latch := none, handle := none, held := none, outcome := none, image := [],
    cursors := [], sequences := [] }

end Sys2Proof.Machine
end

