-- ==== Sys2Proof/Machine/Flags.lean ====
section
/-! DEFINITION. The derived predicates of a resolved assembly decode (R117), and what a record says of its operands.
The block has no flags (R20, R21): these are data about the decoded chip's instruction. -/

namespace Sys2Proof.Machine

/-- Z is written: the write-Z bit is set and the variant honors it (R117). -/
def wzEff (op : Opcode) (v : Variant) : Bool := zOf op && v.honorsZ

/-- C is written: the write-C bit is set and the variant honors it (R117). -/
def wcEff (op : Opcode) (v : Variant) : Bool := cOf op && v.honorsC

/-- The result is written: the write-result bit is set and the variant honors it (R117). -/
def wrEff (op : Opcode) (v : Variant) : Bool := rOf op && v.honorsR

/-- The write is suppressed: the write-result bit is clear and the variant honors it (R117). -/
def nrEff (op : Opcode) (v : Variant) : Bool := !rOf op && v.honorsR

/-- The immediate bit, unconditional on the variant (R117). -/
def immEff (op : Opcode) : Bool := iOf op

/-- SRC denotes a literal (R73). -/
def DecodedInstruction.srcIsLiteral (d : DecodedInstruction) : Bool := d.i && d.variant.srcLiteral

/-- A 9-bit address in the special-register window 0x1F0 to 0x1FF (R24). -/
def inSpecialWindow (a : RegAddr) : Bool :=
  decide (Config.specialBase.toNat ≤ a.toNat) && decide (a.toNat ≤ Config.specialBase.toNat + 15)

/-- DEST names a special register: it is a destination operand in the special window (R126, R74). -/
def DecodedInstruction.destIsSpecial (d : DecodedInstruction) : Bool := d.variant.hasDest && inSpecialWindow d.dest

/-- SRC names a special register: it is a register source operand in the special window (R126, R73). -/
def DecodedInstruction.srcIsSpecial (d : DecodedInstruction) : Bool :=
  d.variant.hasSrc && !d.srcIsLiteral && inSpecialWindow d.src

end Sys2Proof.Machine
end

