-- ==== Sys2Proof/Machine/Ops.lean ====
section
/-! DEFINITION. The named operations every meaning is written over: the memory image, ReadByte, and the delivery of an
outcome, which is how this machine takes an exception (R318). -/

namespace Sys2Proof.Machine

/-! ### The memory image (R31, R50) -/

/-- The byte at an address; none where the image lists no byte (notes/assumptions/3.md). -/
def Memory.read : Memory → Nat → Option Byte
  | [], _ => none
  | (a', b) :: m, a => if a = a' then some b else Memory.read m a

/-- Writing one byte, in place or at its sorted position, so the canonical form is kept. The block never writes the
image (R58); its owner does (R65). -/
def Memory.write : Memory → Nat → Byte → Memory
  | [], a, b => [(a, b)]
  | (a', b') :: m, a, b =>
    if a < a' then (a, b) :: (a', b') :: m
    else if a = a' then (a, b) :: m
    else (a', b') :: Memory.write m a b

/-- The canonical form: addresses strictly rising. No entry can equal what an unlisted address reads as, that being
no byte. -/
def Memory.wf : Memory → Bool
  | [] => true
  | [_] => true
  | (a, _) :: (a', b') :: m => decide (a < a') && Memory.wf ((a', b') :: m)

/-- Writing consecutive bytes from an address up. -/
def Memory.writeList (m : Memory) (a : Nat) : List Byte → Memory
  | [] => m
  | b :: bs => Memory.writeList (Memory.write m a b) (a + 1) bs

/-- An address past every listed one. -/
def Memory.top : Memory → Nat
  | [] => 0
  | (a, _) :: m => max (a + 1) (Memory.top m)

/-- The bytes that stand from an address on, at most `n`, up to the first address with no byte. -/
def Memory.peek (m : Memory) (a : Nat) : Nat → List Byte
  | 0 => []
  | n + 1 =>
    match Memory.read m a with
    | none => []
    | some b => b :: Memory.peek m (a + 1) n

/-! ### The transient state of a call (R28, R29, R51) -/

/-- A call presents its stream handle (R51). -/
def State.present (h : Option Nat) (s : State) : State := { s with handle := h }

/-- The cursor the presented handle names. A handle that names no open stream is absent (notes/assumptions/6.md). -/
def State.cursor? (s : State) : Option Nat :=
  match s.handle with
  | none => none
  | some h => s.cursors[h]?

/-- An assembly call latches its opcode (R28). An outcome is not sticky (R319). -/
def State.latchOpcode (op : Opcode) (s : State) : State := { s with latch := some op, outcome := none }

/-- A bytecode operation begins and holds no byte yet (R29). -/
def State.beginOperation (s : State) : State := { s with held := some [], outcome := none }

/-- The count k of bytes pulled so far in this operation (R29). -/
def State.pulled (s : State) : Nat := (s.held.getD []).length

/-- One byte is pulled: the cursor advances by one and the byte is held (R29, R50). -/
def State.takeByte (h p : Nat) (b : Byte) (s : State) : State :=
  { s with cursors := s.cursors.set h (p + 1), held := some (s.held.getD [] ++ [b]) }

/-- `ReadByte()` (R11, R50) on the presented stream. The error is `StreamExhausted`, with the state it leaves. -/
def readByte (s : State) : Except State (Byte × State) :=
  match s.handle with
  | none => .error s
  | some h =>
    match s.cursors[h]? with
    | none => .error s
    | some p =>
      match Memory.read s.image p with
      | none => .error s
      | some b => .ok (b, s.takeByte h p b)

/-- `n` reads in order (R61); the first missing byte ends them (R219). -/
def readBytes : Nat → State → Except State State
  | 0, s => .ok s
  | n + 1, s =>
    match readByte s with
    | .error s' => .error s'
    | .ok (_, s') => readBytes n s'

/-! ### Ending a call (R310, R318, R350) -/

/-- The numeric code of an outcome (R310). -/
def outcomeCode : CallOutcome → Nat
  | .success _ => 0
  | .streamExhausted _ => 1
  | .invalidArgument => 2
  | .noVariant _ => 3

/-- DELIVERY: a call ends by handing exactly one outcome to its caller. The latch, the handle and the held bytes are
discarded; the cursor keeps its advance (R318, R29). An error outcome is this machine's exception: nothing else is
saved, no mode changes, no vector is taken (R318). There is no return from one: after delivery the block is idle and
takes the next call (R319). -/
def State.deliver (o : CallOutcome) (s : State) : State :=
  { s with outcome := some o, latch := none, handle := none, held := none }

/-- A bytecode call that pulls `n` bytes and ends with `finish k`. First the handle check, then the bytes in order
(R317): InvalidArgument reads nothing (R312, R51); StreamExhausted records the bytes pulled, which stay consumed
(R311, R58). -/
def streamCall (n : Nat) (finish : Nat → CallOutcome) (s : State) : Host.Outcome State Fault Refusal :=
  match s.cursor? with
  | none => .next (s.deliver .invalidArgument)
  | some _ =>
    match readBytes n s.beginOperation with
    | .error s' => .next (s'.deliver (.streamExhausted s'.pulled))
    | .ok s' => .next (s'.deliver (finish s'.pulled))

/-! ### What the outside world does between calls -/

/-- The block's reset (R340): no latch, no operation, no outcome; the tables keep their contents, and the image, the
cursors and the callers' requests are not the block's. -/
def State.blockReset (s : State) : State :=
  { s with latch := none, handle := none, held := none, outcome := none }

/-- The image's owner writes one byte (R65). -/
def State.writeImage (a : Nat) (b : Byte) (s : State) : State := { s with image := Memory.write s.image a b }

/-- The outside world opens a stream; its handle is the number of streams before it (R342). -/
def State.openStream (start : Nat) (s : State) : State := { s with cursors := s.cursors ++ [start] }

/-- The requests still to serve. -/
def State.withSequences (q : List (List Request)) (s : State) : State := { s with sequences := q }

end Sys2Proof.Machine
end

