-- ==== Sys2Proof/Machine/Resolver.lean ====
section
/-! DEFINITION. The polymorphic opcode resolver, the condition lookup and the top-level assembly decode
(40_asm_resolver.md). -/

namespace Sys2Proof.Machine

/-- `ASM_TABLE[instr]` (R140); INSTR is six bits, so it is always in range (R118). -/
def asmEntry (t : Tables) (instr : BitVec 6) : AsmEntry := t.asm[instr.toNat]'(by have := instr.isLt; omega)

/-- `COND_SYNONYMS[con]` (R120). -/
def condSynonyms (t : Tables) (con : BitVec 4) : List String := t.cond[con.toNat]'(by have := con.isLt; omega)

/-- The variant index by dispatch kind (R111). Normal: 0 (R112). WR: the write-result bit `zcri[1]` (R113). Hub: the
low three bits of SRC, so never 8 (R114, R115). Jump: `n = R ++ I`; at most 1, RET when SRC = 0 and else JMP; above 1,
n itself (R116). -/
def select (k : Kind) (zcri : BitVec 4) (src : RegAddr) : Fin 9 :=
  match k with
  | .normal => 0
  | .wr => if zcri.getLsbD 1 then 0 else 1
  | .hub => ⟨(src.extractLsb' 0 3).toNat, by have := (src.extractLsb' 0 3).isLt; omega⟩
  | .jump =>
    if (zcri.extractLsb' 0 2).toNat ≤ 1 then (if src = 0#9 then 1 else 0)
    else ⟨(zcri.extractLsb' 0 2).toNat, by have := (zcri.extractLsb' 0 2).isLt; omega⟩

/-- The variant of an entry at an index. Indexes the kind's selection never yields read as the entry's last variant,
so the function is total; `select` stays below the entry's count (R111). -/
def entryVariant (e : AsmEntry) (idx : Fin 9) : Variant :=
  match e with
  | .normal v => v
  | .wr v0 v1 => if idx.val = 0 then v0 else v1
  | .hub vs => vs[idx.val]'idx.isLt
  | .jump v0 v1 v2 v3 => if idx.val = 0 then v0 else if idx.val = 1 then v1 else if idx.val = 2 then v2 else v3

/-- `resolve(instr, zcri, src)`: the index and the variant (R110, R111). Always a variant. -/
def resolve (t : Tables) (instr : BitVec 6) (zcri : BitVec 4) (src : RegAddr) : Fin 9 × Variant :=
  let e := asmEntry t instr
  let idx := select (entryKind e) zcri src
  (idx, entryVariant e idx)

/-- The record of `decode_assembly_opcode(op)` (R130, R32). -/
def decodeRecord (t : Tables) (op : Opcode) : DecodedInstruction :=
  let rv := resolve t (instrOf op) (zcriOf op) (srcOf op)
  { opcode := op, instr := instrOf op, z := zOf op, c := cOf op, r := rOf op, i := iOf op, con := conOf op,
    dest := destOf op, src := srcOf op, kind := entryKind (asmEntry t (instrOf op)), variantIndex := rv.1,
    variant := rv.2, wzEff := wzEff op rv.2, wcEff := wcEff op rv.2, wrEff := wrEff op rv.2,
    nrEff := nrEff op rv.2, immEff := immEff op, conditions := condSynonyms t (conOf op) }

/-- The end of an assembly call: the record of the latched opcode is delivered (R28, R130). -/
def State.finishAssembly (s : State) : State :=
  match s.latch with
  | some op => s.deliver (.success (.instruction (decodeRecord s.tables op)))
  | none => s

/-- `decode_assembly_opcode(op)`: the opcode is latched and its record delivered. It reads no stream and raises
nothing (R85, R130, R131). -/
def decodeAssembly (op : Opcode) (s : State) : Host.Outcome State Fault Refusal :=
  .next (s.latchOpcode op).finishAssembly

end Sys2Proof.Machine
end

