-- ==== Sys2Proof/Machine/AsmHub.lean ====
section
/-! DEFINITION. Meanings of the Hub rows (R114, R115, R145): SRC[2:0] selects the row; HUBOP is selected by no opcode. -/

namespace Sys2Proof.Machine

/-- CLKSET, INSTR 3, SRC[2:0] = 0 (R145, R114). -/
def execAsmClkset (o : HubOps) (s : State) : Host.Outcome State Fault Refusal :=
  decodeAssembly (hubWord 3#6 0#3 o) s

/-- COGID, INSTR 3, SRC[2:0] = 1 (R145, R114). -/
def execAsmCogid (o : HubOps) (s : State) : Host.Outcome State Fault Refusal :=
  decodeAssembly (hubWord 3#6 1#3 o) s

/-- COGINIT, INSTR 3, SRC[2:0] = 2 (R145, R114). -/
def execAsmCoginit (o : HubOps) (s : State) : Host.Outcome State Fault Refusal :=
  decodeAssembly (hubWord 3#6 2#3 o) s

/-- COGSTOP, INSTR 3, SRC[2:0] = 3 (R145, R114). -/
def execAsmCogstop (o : HubOps) (s : State) : Host.Outcome State Fault Refusal :=
  decodeAssembly (hubWord 3#6 3#3 o) s

/-- LOCKNEW, INSTR 3, SRC[2:0] = 4 (R145, R114). -/
def execAsmLocknew (o : HubOps) (s : State) : Host.Outcome State Fault Refusal :=
  decodeAssembly (hubWord 3#6 4#3 o) s

/-- LOCKRET, INSTR 3, SRC[2:0] = 5 (R145, R114). -/
def execAsmLockret (o : HubOps) (s : State) : Host.Outcome State Fault Refusal :=
  decodeAssembly (hubWord 3#6 5#3 o) s

/-- LOCKSET, INSTR 3, SRC[2:0] = 6 (R145, R114). -/
def execAsmLockset (o : HubOps) (s : State) : Host.Outcome State Fault Refusal :=
  decodeAssembly (hubWord 3#6 6#3 o) s

/-- LOCKCLR, INSTR 3, SRC[2:0] = 7 (R145, R114). -/
def execAsmLockclr (o : HubOps) (s : State) : Host.Outcome State Fault Refusal :=
  decodeAssembly (hubWord 3#6 7#3 o) s

/-- HUBOP (Hub variant 8): held in the table, selected by no opcode, so no call can run it (R86, R115, R145; I1:
`refuse`). It stops on every path. -/
def execAsmHubop (_s : State) : Host.Outcome State Fault Refusal := .refused .unreachableVariant

end Sys2Proof.Machine
end

