-- ==== Sys2Proof/Machine/AsmJump.lean ====
section
/-! DEFINITION. Meanings of the Jump rows (R116, R165). -/

namespace Sys2Proof.Machine

/-- RET, INSTR 23, R = 0 and SRC = 0 (R165, R116). -/
def execAsmRet (o : RetOps) (s : State) : Host.Outcome State Fault Refusal :=
  decodeAssembly (retWord 23#6 o) s

/-- JMP, INSTR 23, R = 0 and SRC not 0 (R165, R116). With SRC = 0 the opcode is a RET. -/
def execAsmJmp (o : FixedROps) (s : State) : Host.Outcome State Fault Refusal :=
  decodeAssembly (fixedRWord 23#6 false o) s

/-- JMPRET, INSTR 23, R = 1 and I = 0 (R165, R116). -/
def execAsmJmpret (o : LinkOps) (s : State) : Host.Outcome State Fault Refusal :=
  decodeAssembly (linkWord 23#6 false o) s

/-- CALL, INSTR 23, R = 1 and I = 1 (R165, R116). -/
def execAsmCall (o : LinkOps) (s : State) : Host.Outcome State Fault Refusal :=
  decodeAssembly (linkWord 23#6 true o) s

end Sys2Proof.Machine
end

