-- ==== Sys2Proof/Machine/AsmNormal.lean ====
section
/-! DEFINITION. Meanings of the 55 Normal rows (R112): every ZCRI and SRC selects the one variant. -/

namespace Sys2Proof.Machine

/-- MUL, INSTR 4 (R146). -/
def execAsmMul (o : FullOps) (s : State) : Host.Outcome State Fault Refusal :=
  decodeAssembly (fullWord 4#6 o) s

/-- MULS, INSTR 5 (R147). -/
def execAsmMuls (o : FullOps) (s : State) : Host.Outcome State Fault Refusal :=
  decodeAssembly (fullWord 5#6 o) s

/-- ENC, INSTR 6 (R148). -/
def execAsmEnc (o : FullOps) (s : State) : Host.Outcome State Fault Refusal :=
  decodeAssembly (fullWord 6#6 o) s

/-- ONES, INSTR 7 (R149). -/
def execAsmOnes (o : FullOps) (s : State) : Host.Outcome State Fault Refusal :=
  decodeAssembly (fullWord 7#6 o) s

/-- ROR, INSTR 8 (R150). -/
def execAsmRor (o : FullOps) (s : State) : Host.Outcome State Fault Refusal :=
  decodeAssembly (fullWord 8#6 o) s

/-- ROL, INSTR 9 (R151). -/
def execAsmRol (o : FullOps) (s : State) : Host.Outcome State Fault Refusal :=
  decodeAssembly (fullWord 9#6 o) s

/-- SHR, INSTR 10 (R152). -/
def execAsmShr (o : FullOps) (s : State) : Host.Outcome State Fault Refusal :=
  decodeAssembly (fullWord 10#6 o) s

/-- SHL, INSTR 11 (R153). -/
def execAsmShl (o : FullOps) (s : State) : Host.Outcome State Fault Refusal :=
  decodeAssembly (fullWord 11#6 o) s

/-- RCR, INSTR 12 (R154). -/
def execAsmRcr (o : FullOps) (s : State) : Host.Outcome State Fault Refusal :=
  decodeAssembly (fullWord 12#6 o) s

/-- RCL, INSTR 13 (R155). -/
def execAsmRcl (o : FullOps) (s : State) : Host.Outcome State Fault Refusal :=
  decodeAssembly (fullWord 13#6 o) s

/-- SAR, INSTR 14 (R156). -/
def execAsmSar (o : FullOps) (s : State) : Host.Outcome State Fault Refusal :=
  decodeAssembly (fullWord 14#6 o) s

/-- REV, INSTR 15 (R157). -/
def execAsmRev (o : FullOps) (s : State) : Host.Outcome State Fault Refusal :=
  decodeAssembly (fullWord 15#6 o) s

/-- MINS, INSTR 16 (R158). -/
def execAsmMins (o : FullOps) (s : State) : Host.Outcome State Fault Refusal :=
  decodeAssembly (fullWord 16#6 o) s

/-- MAXS, INSTR 17 (R159). -/
def execAsmMaxs (o : FullOps) (s : State) : Host.Outcome State Fault Refusal :=
  decodeAssembly (fullWord 17#6 o) s

/-- MIN, INSTR 18 (R160). -/
def execAsmMin (o : FullOps) (s : State) : Host.Outcome State Fault Refusal :=
  decodeAssembly (fullWord 18#6 o) s

/-- MAX, INSTR 19 (R161). -/
def execAsmMax (o : FullOps) (s : State) : Host.Outcome State Fault Refusal :=
  decodeAssembly (fullWord 19#6 o) s

/-- MOVS, INSTR 20 (R162). -/
def execAsmMovs (o : FullOps) (s : State) : Host.Outcome State Fault Refusal :=
  decodeAssembly (fullWord 20#6 o) s

/-- MOVD, INSTR 21 (R163). -/
def execAsmMovd (o : FullOps) (s : State) : Host.Outcome State Fault Refusal :=
  decodeAssembly (fullWord 21#6 o) s

/-- MOVI, INSTR 22 (R164). -/
def execAsmMovi (o : FullOps) (s : State) : Host.Outcome State Fault Refusal :=
  decodeAssembly (fullWord 22#6 o) s

/-- OR, INSTR 26 (R168). -/
def execAsmOr (o : FullOps) (s : State) : Host.Outcome State Fault Refusal :=
  decodeAssembly (fullWord 26#6 o) s

/-- XOR, INSTR 27 (R169). -/
def execAsmXor (o : FullOps) (s : State) : Host.Outcome State Fault Refusal :=
  decodeAssembly (fullWord 27#6 o) s

/-- MUXC, INSTR 28 (R170). -/
def execAsmMuxc (o : FullOps) (s : State) : Host.Outcome State Fault Refusal :=
  decodeAssembly (fullWord 28#6 o) s

/-- MUXNC, INSTR 29 (R171). -/
def execAsmMuxnc (o : FullOps) (s : State) : Host.Outcome State Fault Refusal :=
  decodeAssembly (fullWord 29#6 o) s

/-- MUXZ, INSTR 30 (R172). -/
def execAsmMuxz (o : FullOps) (s : State) : Host.Outcome State Fault Refusal :=
  decodeAssembly (fullWord 30#6 o) s

/-- MUXNZ, INSTR 31 (R173). -/
def execAsmMuxnz (o : FullOps) (s : State) : Host.Outcome State Fault Refusal :=
  decodeAssembly (fullWord 31#6 o) s

/-- ADD, INSTR 32 (R174). -/
def execAsmAdd (o : FullOps) (s : State) : Host.Outcome State Fault Refusal :=
  decodeAssembly (fullWord 32#6 o) s

/-- ADDABS, INSTR 34 (R176). -/
def execAsmAddabs (o : FullOps) (s : State) : Host.Outcome State Fault Refusal :=
  decodeAssembly (fullWord 34#6 o) s

/-- SUBABS, INSTR 35 (R177). -/
def execAsmSubabs (o : FullOps) (s : State) : Host.Outcome State Fault Refusal :=
  decodeAssembly (fullWord 35#6 o) s

/-- SUMC, INSTR 36 (R178). -/
def execAsmSumc (o : FullOps) (s : State) : Host.Outcome State Fault Refusal :=
  decodeAssembly (fullWord 36#6 o) s

/-- SUMNC, INSTR 37 (R179). -/
def execAsmSumnc (o : FullOps) (s : State) : Host.Outcome State Fault Refusal :=
  decodeAssembly (fullWord 37#6 o) s

/-- SUMZ, INSTR 38 (R180). -/
def execAsmSumz (o : FullOps) (s : State) : Host.Outcome State Fault Refusal :=
  decodeAssembly (fullWord 38#6 o) s

/-- SUMNZ, INSTR 39 (R181). -/
def execAsmSumnz (o : FullOps) (s : State) : Host.Outcome State Fault Refusal :=
  decodeAssembly (fullWord 39#6 o) s

/-- MOV, INSTR 40 (R182). -/
def execAsmMov (o : FullOps) (s : State) : Host.Outcome State Fault Refusal :=
  decodeAssembly (fullWord 40#6 o) s

/-- NEG, INSTR 41 (R183). -/
def execAsmNeg (o : FullOps) (s : State) : Host.Outcome State Fault Refusal :=
  decodeAssembly (fullWord 41#6 o) s

/-- ABS, INSTR 42 (R184). -/
def execAsmAbs (o : FullOps) (s : State) : Host.Outcome State Fault Refusal :=
  decodeAssembly (fullWord 42#6 o) s

/-- ABSNEG, INSTR 43 (R185). -/
def execAsmAbsneg (o : FullOps) (s : State) : Host.Outcome State Fault Refusal :=
  decodeAssembly (fullWord 43#6 o) s

/-- NEGC, INSTR 44 (R186). -/
def execAsmNegc (o : FullOps) (s : State) : Host.Outcome State Fault Refusal :=
  decodeAssembly (fullWord 44#6 o) s

/-- NEGNC, INSTR 45 (R187). -/
def execAsmNegnc (o : FullOps) (s : State) : Host.Outcome State Fault Refusal :=
  decodeAssembly (fullWord 45#6 o) s

/-- NEGZ, INSTR 46 (R188). -/
def execAsmNegz (o : FullOps) (s : State) : Host.Outcome State Fault Refusal :=
  decodeAssembly (fullWord 46#6 o) s

/-- NEGNZ, INSTR 47 (R189). -/
def execAsmNegnz (o : FullOps) (s : State) : Host.Outcome State Fault Refusal :=
  decodeAssembly (fullWord 47#6 o) s

/-- CMPS, INSTR 48 (R190). -/
def execAsmCmps (o : FullOps) (s : State) : Host.Outcome State Fault Refusal :=
  decodeAssembly (fullWord 48#6 o) s

/-- CMPSX, INSTR 49 (R191). -/
def execAsmCmpsx (o : FullOps) (s : State) : Host.Outcome State Fault Refusal :=
  decodeAssembly (fullWord 49#6 o) s

/-- ADDX, INSTR 50 (R192). -/
def execAsmAddx (o : FullOps) (s : State) : Host.Outcome State Fault Refusal :=
  decodeAssembly (fullWord 50#6 o) s

/-- ADDS, INSTR 52 (R194). -/
def execAsmAdds (o : FullOps) (s : State) : Host.Outcome State Fault Refusal :=
  decodeAssembly (fullWord 52#6 o) s

/-- SUBS, INSTR 53 (R195). -/
def execAsmSubs (o : FullOps) (s : State) : Host.Outcome State Fault Refusal :=
  decodeAssembly (fullWord 53#6 o) s

/-- ADDSX, INSTR 54 (R196). -/
def execAsmAddsx (o : FullOps) (s : State) : Host.Outcome State Fault Refusal :=
  decodeAssembly (fullWord 54#6 o) s

/-- SUBSX, INSTR 55 (R197). -/
def execAsmSubsx (o : FullOps) (s : State) : Host.Outcome State Fault Refusal :=
  decodeAssembly (fullWord 55#6 o) s

/-- CMPSUB, INSTR 56 (R198). -/
def execAsmCmpsub (o : FullOps) (s : State) : Host.Outcome State Fault Refusal :=
  decodeAssembly (fullWord 56#6 o) s

/-- DJNZ, INSTR 57 (R199). -/
def execAsmDjnz (o : FullOps) (s : State) : Host.Outcome State Fault Refusal :=
  decodeAssembly (fullWord 57#6 o) s

/-- TJNZ, INSTR 58 (R200). -/
def execAsmTjnz (o : FullOps) (s : State) : Host.Outcome State Fault Refusal :=
  decodeAssembly (fullWord 58#6 o) s

/-- TJZ, INSTR 59 (R201). -/
def execAsmTjz (o : FullOps) (s : State) : Host.Outcome State Fault Refusal :=
  decodeAssembly (fullWord 59#6 o) s

/-- WAITPEQ, INSTR 60 (R202). -/
def execAsmWaitpeq (o : FullOps) (s : State) : Host.Outcome State Fault Refusal :=
  decodeAssembly (fullWord 60#6 o) s

/-- WAITPNE, INSTR 61 (R203). -/
def execAsmWaitpne (o : FullOps) (s : State) : Host.Outcome State Fault Refusal :=
  decodeAssembly (fullWord 61#6 o) s

/-- WAITCNT, INSTR 62 (R204). -/
def execAsmWaitcnt (o : FullOps) (s : State) : Host.Outcome State Fault Refusal :=
  decodeAssembly (fullWord 62#6 o) s

/-- WAITVID, INSTR 63 (R205). -/
def execAsmWaitvid (o : FullOps) (s : State) : Host.Outcome State Fault Refusal :=
  decodeAssembly (fullWord 63#6 o) s

end Sys2Proof.Machine
end

