-- ==== Sys2Proof/Machine/AsmWr.lean ====
section
/-! DEFINITION. Meanings of the fourteen WR rows (R113): seven entries, R set for the writing row. Each is `decode_assembly_opcode` (R130) of
its own opcode. -/

namespace Sys2Proof.Machine

/-- RDBYTE, INSTR 0, R = 1 (R142, R113). -/
def execAsmRdbyte (o : FixedROps) (s : State) : Host.Outcome State Fault Refusal :=
  decodeAssembly (fixedRWord 0#6 true o) s

/-- WRBYTE, INSTR 0, R = 0 (R142, R113). -/
def execAsmWrbyte (o : FixedROps) (s : State) : Host.Outcome State Fault Refusal :=
  decodeAssembly (fixedRWord 0#6 false o) s

/-- RDWORD, INSTR 1, R = 1 (R143, R113). -/
def execAsmRdword (o : FixedROps) (s : State) : Host.Outcome State Fault Refusal :=
  decodeAssembly (fixedRWord 1#6 true o) s

/-- WRWORD, INSTR 1, R = 0 (R143, R113). -/
def execAsmWrword (o : FixedROps) (s : State) : Host.Outcome State Fault Refusal :=
  decodeAssembly (fixedRWord 1#6 false o) s

/-- RDLONG, INSTR 2, R = 1 (R144, R113). -/
def execAsmRdlong (o : FixedROps) (s : State) : Host.Outcome State Fault Refusal :=
  decodeAssembly (fixedRWord 2#6 true o) s

/-- WRLONG, INSTR 2, R = 0 (R144, R113). -/
def execAsmWrlong (o : FixedROps) (s : State) : Host.Outcome State Fault Refusal :=
  decodeAssembly (fixedRWord 2#6 false o) s

/-- AND, INSTR 24, R = 1 (R166, R113). -/
def execAsmAnd (o : FixedROps) (s : State) : Host.Outcome State Fault Refusal :=
  decodeAssembly (fixedRWord 24#6 true o) s

/-- TEST, INSTR 24, R = 0 (R166, R113). -/
def execAsmTest (o : FixedROps) (s : State) : Host.Outcome State Fault Refusal :=
  decodeAssembly (fixedRWord 24#6 false o) s

/-- ANDN, INSTR 25, R = 1 (R167, R113). -/
def execAsmAndn (o : FixedROps) (s : State) : Host.Outcome State Fault Refusal :=
  decodeAssembly (fixedRWord 25#6 true o) s

/-- TESTN, INSTR 25, R = 0 (R167, R113). -/
def execAsmTestn (o : FixedROps) (s : State) : Host.Outcome State Fault Refusal :=
  decodeAssembly (fixedRWord 25#6 false o) s

/-- SUB, INSTR 33, R = 1 (R175, R113). -/
def execAsmSub (o : FixedROps) (s : State) : Host.Outcome State Fault Refusal :=
  decodeAssembly (fixedRWord 33#6 true o) s

/-- CMP, INSTR 33, R = 0 (R175, R113). -/
def execAsmCmp (o : FixedROps) (s : State) : Host.Outcome State Fault Refusal :=
  decodeAssembly (fixedRWord 33#6 false o) s

/-- SUBX, INSTR 51, R = 1 (R193, R113). -/
def execAsmSubx (o : FixedROps) (s : State) : Host.Outcome State Fault Refusal :=
  decodeAssembly (fixedRWord 51#6 true o) s

/-- CMPX, INSTR 51, R = 0 (R193, R113). -/
def execAsmCmpx (o : FixedROps) (s : State) : Host.Outcome State Fault Refusal :=
  decodeAssembly (fixedRWord 51#6 false o) s

end Sys2Proof.Machine
end

