-- ==== Sys2Proof/Machine/Operands.lean ====
section
/-! DEFINITION. Operand forms and byte fields: the value of each unpacking rule (42_bytecode_unpacker.md) and the
fields of the assignment and memory-operation bytes (R231, R290). -/

namespace Sys2Proof.Machine

/-! ### Unpacked values, as 32-bit patterns (R210) -/

/-- Signed offset, one byte: `sext_32(b0[6:0])` from bit 6 (R211). -/
def signedOffsetShort (v : BitVec 7) : Value := v.signExtend 32

/-- Signed offset, two bytes: `sext_32(b0[6:0] ++ b1)` from bit 14 (R211). -/
def signedOffsetLong (hi : BitVec 7) (lo : Byte) : Value := (hi ++ lo).signExtend 32

/-- The reconstructed first byte: the low 7 bits with bit 6 copied to bit 7 (R212). -/
def packedSignByte (v : BitVec 7) : Byte := BitVec.ofBool (v.getLsbD 6) ++ v

/-- Signed packed offset, one byte: the reconstructed byte from bit 7 (R212). -/
def signedPackedOffsetShort (v : BitVec 7) : Value := (packedSignByte v).signExtend 32

/-- Signed packed offset, two bytes: the reconstructed byte above the second, from bit 15 (R212). -/
def signedPackedOffsetLong (hi : BitVec 7) (lo : Byte) : Value := (packedSignByte hi ++ lo).signExtend 32

/-- Packed literal of a valid byte: `2 << e` modulo 2^32, then minus 1, then complemented (R213). -/
def packedLiteralValue (complement decrement : Bool) (exponent : BitVec 5) : Value :=
  let shifted : Value := 2#32 <<< exponent.toNat
  let lessened := if decrement then shifted - 1#32 else shifted
  if complement then ~~~lessened else lessened

/-- The sentinel of a malformed packed literal (R214). -/
def malformedSentinel : Value := 0x55555555#32

/-- Packed offset, one byte: `zext_32(b0[6:0])` (R215). -/
def packedOffsetShort (v : BitVec 7) : Value := v.setWidth 32

/-- Packed offset, two bytes: `zext_32(b0[6:0] ++ b1)` (R215). -/
def packedOffsetLong (hi : BitVec 7) (lo : Byte) : Value := (hi ++ lo).setWidth 32

/-- Word literal: big-endian, unsigned (R216, R52). -/
def wordValue (b0 b1 : Byte) : Value := (b0 ++ b1).setWidth 32

/-- Near-long literal: big-endian, unsigned (R217, R52). -/
def nearLongValue (b0 b1 b2 : Byte) : Value := (b0 ++ b1 ++ b2).setWidth 32

/-- Long literal: big-endian (R218, R52). -/
def longValue (b0 b1 b2 b3 : Byte) : Value := b0 ++ b1 ++ b2 ++ b3

/-- The unpacker's outcome: a value and the bytes consumed, with no diagnostic (R33). -/
def valueOutcome (v : Value) (consumed : Nat) : CallOutcome :=
  .success (.value { value := v, consumed := consumed, malformed := none })

/-- The packed-literal rule's outcome, with its diagnostic bit (R213, R214, decision D23). -/
def literalOutcome (v : Value) (malformed : Bool) (consumed : Nat) : CallOutcome :=
  .success (.value { value := v, consumed := consumed, malformed := some malformed })

/-! ### Fields of the assignment byte (R231) -/

/-- All fields are reported whatever the path; b[0] is in none (R231). -/
def assignFields (b : Byte) : AssignFields :=
  { push := b.getLsbD 7, math := b.getLsbD 6, family := b.extractLsb' 3 3, swap := b.getLsbD 5,
    mathop := b.extractLsb' 0 5, bit2 := b.getLsbD 2, bit1 := b.getLsbD 1, size := b.extractLsb' 1 2 }

/-- The math index b[5:0] = swap ++ mathop (R78, R232, decision D9). -/
def mathIndex (b : Byte) : BitVec 6 := b.extractLsb' 0 6

/-! ### Fields of the memory-operation byte (R290) -/

/-- The action code: b[7:5] widened to 4 bits, bit 8 reading 0 (R291, decision D6). -/
def actionCode (b : Byte) : BitVec 4 := (b.extractLsb' 5 3).setWidth 4

/-- The table selector b[4] (R290). -/
def memopSel (b : Byte) : Bool := b.getLsbD 4

/-- The register index b[3:0] (R290). -/
def memopIndex (b : Byte) : BitVec 4 := b.extractLsb' 0 4

/-- The synthesized 9-bit address `MEMOP_REG_BASE + b[4:0]` (R292). -/
def memopAddr (base : RegAddr) (b : Byte) : RegAddr := base + (b.extractLsb' 0 5).setWidth 9

end Sys2Proof.Machine
end

