-- ==== Sys2Proof/Machine/Assignment.lean ====
section
/-! DEFINITION. The assignment and math-operator decoder as a shared operation (R230 to R238). -/

namespace Sys2Proof.Machine

/-- `MATH_OPS[b[5:0]]` (R232). -/
def mathEntryOf (t : Tables) (b : Byte) : MathEntry :=
  t.mathOps[(mathIndex b).toNat]'(by have := (mathIndex b).isLt; omega)

/-- `ASSIGN_FAMILIES[b[5:3]]` (R233). -/
def familyOf (t : Tables) (b : Byte) : AssignFamily :=
  t.families[(assignFields b).family.toNat]'(by have := (assignFields b).family.isLt; omega)

/-- The variant index by the family's rule: Bit1, Bit2 or the size field (R234, R235, R236). -/
def familyIndex (rule : FamilyRule) (f : AssignFields) : Nat :=
  match rule with
  | .writeRepeat => f.bit1.toNat
  | .normal => f.bit2.toNat
  | .size => f.size.toNat

/-- The outcome of an assignment byte (R230): a math entry, a family variant, or NoVariant where the family holds no
variant at the index (R236, R314). `next` is the operator's operand rule (R237). -/
def assignmentOutcome (t : Tables) (b : Byte) (consumed : Nat) : CallOutcome :=
  let f := assignFields b
  if f.math then
    let e := mathEntryOf t b
    .success (.assignment { byte := b, fields := f, isMath := true, op := .math e, next := e.operandRule,
                            consumed := consumed })
  else
    let fam := familyOf t b
    match fam.variants[familyIndex fam.rule f]? with
    | none => .noVariant b
    | some v =>
      .success (.assignment { byte := b, fields := f, isMath := false, op := .family v, next := v.operandRule,
                              consumed := consumed })

/-- `decode_assignment` on the byte `b`: one byte is pulled (R230). -/
def decodeAssignment (b : Byte) (s : State) : Host.Outcome State Fault Refusal :=
  streamCall 1 (assignmentOutcome s.tables b) s

end Sys2Proof.Machine
end

