-- ==== Sys2Proof/Machine/Assign.lean ====
section
/-! DEFINITION. Meanings of the 24 assignment rows (math = 0), by family and selector (R233 to R247). -/

namespace Sys2Proof.Machine

/-- WRITE: family 0, Bit1 = 0 (R240, R234). -/
def execAssignWrite (push bit2 bit0 : Bool) (s : State) : Host.Outcome State Fault Refusal :=
  decodeAssignment (assignByte push 0#3 bit2 false bit0) s

/-- REPEAT_COMPARE: family 0, Bit1 = 1 (R240, R234). -/
def execAssignRepeatCompare (push bit2 bit0 : Bool) (s : State) : Host.Outcome State Fault Refusal :=
  decodeAssignment (assignByte push 0#3 bit2 true bit0) s

/-- RANDOM_FORWARD: family 1, Bit2 = 0 (R241, R235). -/
def execAssignRandomForward (push bit1 bit0 : Bool) (s : State) : Host.Outcome State Fault Refusal :=
  decodeAssignment (assignByte push 1#3 false bit1 bit0) s

/-- RANDOM_REVERSE: family 1, Bit2 = 1 (R241, R235). -/
def execAssignRandomReverse (push bit1 bit0 : Bool) (s : State) : Host.Outcome State Fault Refusal :=
  decodeAssignment (assignByte push 1#3 true bit1 bit0) s

/-- SIGN_EXTEND_BYTE: family 2, Bit2 = 0 (R242, R235). -/
def execAssignSignExtendByte (push bit1 bit0 : Bool) (s : State) : Host.Outcome State Fault Refusal :=
  decodeAssignment (assignByte push 2#3 false bit1 bit0) s

/-- SIGN_EXTEND_WORD: family 2, Bit2 = 1 (R242, R235). -/
def execAssignSignExtendWord (push bit1 bit0 : Bool) (s : State) : Host.Outcome State Fault Refusal :=
  decodeAssignment (assignByte push 2#3 true bit1 bit0) s

/-- POST_CLEAR: family 3, Bit2 = 0 (R243, R235). -/
def execAssignPostClear (push bit1 bit0 : Bool) (s : State) : Host.Outcome State Fault Refusal :=
  decodeAssignment (assignByte push 3#3 false bit1 bit0) s

/-- POST_SET: family 3, Bit2 = 1 (R243, R235). -/
def execAssignPostSet (push bit1 bit0 : Bool) (s : State) : Host.Outcome State Fault Refusal :=
  decodeAssignment (assignByte push 3#3 true bit1 bit0) s

/-- PRE_INC_BIT: family 4, size = 0 (R244, R236). -/
def execAssignPreIncBit (push bit0 : Bool) (s : State) : Host.Outcome State Fault Refusal :=
  decodeAssignment (assignByte push 4#3 false false bit0) s

/-- PRE_INC_BYTE: family 4, size = 1 (R244, R236). -/
def execAssignPreIncByte (push bit0 : Bool) (s : State) : Host.Outcome State Fault Refusal :=
  decodeAssignment (assignByte push 4#3 false true bit0) s

/-- PRE_INC_WORD: family 4, size = 2 (R244, R236). -/
def execAssignPreIncWord (push bit0 : Bool) (s : State) : Host.Outcome State Fault Refusal :=
  decodeAssignment (assignByte push 4#3 true false bit0) s

/-- PRE_INC_LONG: family 4, size = 3 (R244, R236). -/
def execAssignPreIncLong (push bit0 : Bool) (s : State) : Host.Outcome State Fault Refusal :=
  decodeAssignment (assignByte push 4#3 true true bit0) s

/-- POST_INC_BIT: family 5, size = 0 (R245, R236). -/
def execAssignPostIncBit (push bit0 : Bool) (s : State) : Host.Outcome State Fault Refusal :=
  decodeAssignment (assignByte push 5#3 false false bit0) s

/-- POST_INC_BYTE: family 5, size = 1 (R245, R236). -/
def execAssignPostIncByte (push bit0 : Bool) (s : State) : Host.Outcome State Fault Refusal :=
  decodeAssignment (assignByte push 5#3 false true bit0) s

/-- POST_INC_WORD: family 5, size = 2 (R245, R236). -/
def execAssignPostIncWord (push bit0 : Bool) (s : State) : Host.Outcome State Fault Refusal :=
  decodeAssignment (assignByte push 5#3 true false bit0) s

/-- POST_INC_LONG: family 5, size = 3 (R245, R236). -/
def execAssignPostIncLong (push bit0 : Bool) (s : State) : Host.Outcome State Fault Refusal :=
  decodeAssignment (assignByte push 5#3 true true bit0) s

/-- PRE_DEC_BIT: family 6, size = 0 (R246, R236). -/
def execAssignPreDecBit (push bit0 : Bool) (s : State) : Host.Outcome State Fault Refusal :=
  decodeAssignment (assignByte push 6#3 false false bit0) s

/-- PRE_DEC_BYTE: family 6, size = 1 (R246, R236). -/
def execAssignPreDecByte (push bit0 : Bool) (s : State) : Host.Outcome State Fault Refusal :=
  decodeAssignment (assignByte push 6#3 false true bit0) s

/-- PRE_DEC_WORD: family 6, size = 2 (R246, R236). -/
def execAssignPreDecWord (push bit0 : Bool) (s : State) : Host.Outcome State Fault Refusal :=
  decodeAssignment (assignByte push 6#3 true false bit0) s

/-- PRE_DEC_LONG: family 6, size = 3 (R246, R236). -/
def execAssignPreDecLong (push bit0 : Bool) (s : State) : Host.Outcome State Fault Refusal :=
  decodeAssignment (assignByte push 6#3 true true bit0) s

/-- POST_DEC_BIT: family 7, size = 0 (R247, R236). -/
def execAssignPostDecBit (push bit0 : Bool) (s : State) : Host.Outcome State Fault Refusal :=
  decodeAssignment (assignByte push 7#3 false false bit0) s

/-- POST_DEC_BYTE: family 7, size = 1 (R247, R236). -/
def execAssignPostDecByte (push bit0 : Bool) (s : State) : Host.Outcome State Fault Refusal :=
  decodeAssignment (assignByte push 7#3 false true bit0) s

/-- POST_DEC_WORD: family 7, size = 2 (R247, R236). -/
def execAssignPostDecWord (push bit0 : Bool) (s : State) : Host.Outcome State Fault Refusal :=
  decodeAssignment (assignByte push 7#3 true false bit0) s

/-- POST_DEC_LONG: family 7, size = 3 (R247, R236). -/
def execAssignPostDecLong (push bit0 : Bool) (s : State) : Host.Outcome State Fault Refusal :=
  decodeAssignment (assignByte push 7#3 true true bit0) s

end Sys2Proof.Machine
end

