-- ==== Sys2Proof/Machine/Math.lean ====
section
/-! DEFINITION. Meanings of the 64 math-operator rows (math = 1), by entry b[5:0] (R232, R248 to R280). -/

namespace Sys2Proof.Machine

/-- ROR: math entry 0 (R249, R248). -/
def execMathRor (push : Bool) (s : State) : Host.Outcome State Fault Refusal :=
  decodeAssignment (mathByte push 0#6) s

/-- ROL: math entry 1 (R250, R248). -/
def execMathRol (push : Bool) (s : State) : Host.Outcome State Fault Refusal :=
  decodeAssignment (mathByte push 1#6) s

/-- SHR: math entry 2 (R251, R248). -/
def execMathShr (push : Bool) (s : State) : Host.Outcome State Fault Refusal :=
  decodeAssignment (mathByte push 2#6) s

/-- SHL: math entry 3 (R252, R248). -/
def execMathShl (push : Bool) (s : State) : Host.Outcome State Fault Refusal :=
  decodeAssignment (mathByte push 3#6) s

/-- MIN: math entry 4 (R253, R248). -/
def execMathMin (push : Bool) (s : State) : Host.Outcome State Fault Refusal :=
  decodeAssignment (mathByte push 4#6) s

/-- MAX: math entry 5 (R254, R248). -/
def execMathMax (push : Bool) (s : State) : Host.Outcome State Fault Refusal :=
  decodeAssignment (mathByte push 5#6) s

/-- NEG: math entry 6 (R255, R248). -/
def execMathNeg (push : Bool) (s : State) : Host.Outcome State Fault Refusal :=
  decodeAssignment (mathByte push 6#6) s

/-- BIT_NOT: math entry 7 (R256, R248). -/
def execMathBitNot (push : Bool) (s : State) : Host.Outcome State Fault Refusal :=
  decodeAssignment (mathByte push 7#6) s

/-- AND: math entry 8 (R257, R248). -/
def execMathAnd (push : Bool) (s : State) : Host.Outcome State Fault Refusal :=
  decodeAssignment (mathByte push 8#6) s

/-- ABS: math entry 9 (R258, R248). -/
def execMathAbs (push : Bool) (s : State) : Host.Outcome State Fault Refusal :=
  decodeAssignment (mathByte push 9#6) s

/-- OR: math entry 10 (R259, R248). -/
def execMathOr (push : Bool) (s : State) : Host.Outcome State Fault Refusal :=
  decodeAssignment (mathByte push 10#6) s

/-- XOR: math entry 11 (R260, R248). -/
def execMathXor (push : Bool) (s : State) : Host.Outcome State Fault Refusal :=
  decodeAssignment (mathByte push 11#6) s

/-- ADD: math entry 12 (R261, R248). -/
def execMathAdd (push : Bool) (s : State) : Host.Outcome State Fault Refusal :=
  decodeAssignment (mathByte push 12#6) s

/-- SUB: math entry 13 (R262, R248). -/
def execMathSub (push : Bool) (s : State) : Host.Outcome State Fault Refusal :=
  decodeAssignment (mathByte push 13#6) s

/-- SAR: math entry 14 (R263, R248). -/
def execMathSar (push : Bool) (s : State) : Host.Outcome State Fault Refusal :=
  decodeAssignment (mathByte push 14#6) s

/-- REV: math entry 15 (R264, R248). -/
def execMathRev (push : Bool) (s : State) : Host.Outcome State Fault Refusal :=
  decodeAssignment (mathByte push 15#6) s

/-- LOG_AND: math entry 16 (R265, R248). -/
def execMathLogAnd (push : Bool) (s : State) : Host.Outcome State Fault Refusal :=
  decodeAssignment (mathByte push 16#6) s

/-- ENCODE: math entry 17 (R266, R248). -/
def execMathEncode (push : Bool) (s : State) : Host.Outcome State Fault Refusal :=
  decodeAssignment (mathByte push 17#6) s

/-- LOG_OR: math entry 18 (R267, R248). -/
def execMathLogOr (push : Bool) (s : State) : Host.Outcome State Fault Refusal :=
  decodeAssignment (mathByte push 18#6) s

/-- DECODE: math entry 19 (R268, R248). -/
def execMathDecode (push : Bool) (s : State) : Host.Outcome State Fault Refusal :=
  decodeAssignment (mathByte push 19#6) s

/-- MUL: math entry 20 (R269, R248). -/
def execMathMul (push : Bool) (s : State) : Host.Outcome State Fault Refusal :=
  decodeAssignment (mathByte push 20#6) s

/-- MUL_HI: math entry 21 (R270, R248). -/
def execMathMulHi (push : Bool) (s : State) : Host.Outcome State Fault Refusal :=
  decodeAssignment (mathByte push 21#6) s

/-- DIV: math entry 22 (R271, R248). -/
def execMathDiv (push : Bool) (s : State) : Host.Outcome State Fault Refusal :=
  decodeAssignment (mathByte push 22#6) s

/-- MOD: math entry 23 (R272, R248). -/
def execMathMod (push : Bool) (s : State) : Host.Outcome State Fault Refusal :=
  decodeAssignment (mathByte push 23#6) s

/-- SQRT: math entry 24 (R273, R248). -/
def execMathSqrt (push : Bool) (s : State) : Host.Outcome State Fault Refusal :=
  decodeAssignment (mathByte push 24#6) s

/-- LT: math entry 25 (R274, R248). -/
def execMathLt (push : Bool) (s : State) : Host.Outcome State Fault Refusal :=
  decodeAssignment (mathByte push 25#6) s

/-- GT: math entry 26 (R275, R248). -/
def execMathGt (push : Bool) (s : State) : Host.Outcome State Fault Refusal :=
  decodeAssignment (mathByte push 26#6) s

/-- NE: math entry 27 (R276, R248). -/
def execMathNe (push : Bool) (s : State) : Host.Outcome State Fault Refusal :=
  decodeAssignment (mathByte push 27#6) s

/-- EQ: math entry 28 (R277, R248). -/
def execMathEq (push : Bool) (s : State) : Host.Outcome State Fault Refusal :=
  decodeAssignment (mathByte push 28#6) s

/-- LE: math entry 29 (R278, R248). -/
def execMathLe (push : Bool) (s : State) : Host.Outcome State Fault Refusal :=
  decodeAssignment (mathByte push 29#6) s

/-- GE: math entry 30 (R279, R248). -/
def execMathGe (push : Bool) (s : State) : Host.Outcome State Fault Refusal :=
  decodeAssignment (mathByte push 30#6) s

/-- LOG_NOT: math entry 31 (R280, R248). -/
def execMathLogNot (push : Bool) (s : State) : Host.Outcome State Fault Refusal :=
  decodeAssignment (mathByte push 31#6) s

/-- ROR_SWAP: math entry 32 (R249, R248). -/
def execMathRorSwap (push : Bool) (s : State) : Host.Outcome State Fault Refusal :=
  decodeAssignment (mathByte push 32#6) s

/-- ROL_SWAP: math entry 33 (R250, R248). -/
def execMathRolSwap (push : Bool) (s : State) : Host.Outcome State Fault Refusal :=
  decodeAssignment (mathByte push 33#6) s

/-- SHR_SWAP: math entry 34 (R251, R248). -/
def execMathShrSwap (push : Bool) (s : State) : Host.Outcome State Fault Refusal :=
  decodeAssignment (mathByte push 34#6) s

/-- SHL_SWAP: math entry 35 (R252, R248). -/
def execMathShlSwap (push : Bool) (s : State) : Host.Outcome State Fault Refusal :=
  decodeAssignment (mathByte push 35#6) s

/-- MIN_SWAP: math entry 36 (R253, R248). -/
def execMathMinSwap (push : Bool) (s : State) : Host.Outcome State Fault Refusal :=
  decodeAssignment (mathByte push 36#6) s

/-- MAX_SWAP: math entry 37 (R254, R248). -/
def execMathMaxSwap (push : Bool) (s : State) : Host.Outcome State Fault Refusal :=
  decodeAssignment (mathByte push 37#6) s

/-- NEG_SWAP: math entry 38 (R255, R248). -/
def execMathNegSwap (push : Bool) (s : State) : Host.Outcome State Fault Refusal :=
  decodeAssignment (mathByte push 38#6) s

/-- BIT_NOT_SWAP: math entry 39 (R256, R248). -/
def execMathBitNotSwap (push : Bool) (s : State) : Host.Outcome State Fault Refusal :=
  decodeAssignment (mathByte push 39#6) s

/-- AND_SWAP: math entry 40 (R257, R248). -/
def execMathAndSwap (push : Bool) (s : State) : Host.Outcome State Fault Refusal :=
  decodeAssignment (mathByte push 40#6) s

/-- ABS_SWAP: math entry 41 (R258, R248). -/
def execMathAbsSwap (push : Bool) (s : State) : Host.Outcome State Fault Refusal :=
  decodeAssignment (mathByte push 41#6) s

/-- OR_SWAP: math entry 42 (R259, R248). -/
def execMathOrSwap (push : Bool) (s : State) : Host.Outcome State Fault Refusal :=
  decodeAssignment (mathByte push 42#6) s

/-- XOR_SWAP: math entry 43 (R260, R248). -/
def execMathXorSwap (push : Bool) (s : State) : Host.Outcome State Fault Refusal :=
  decodeAssignment (mathByte push 43#6) s

/-- ADD_SWAP: math entry 44 (R261, R248). -/
def execMathAddSwap (push : Bool) (s : State) : Host.Outcome State Fault Refusal :=
  decodeAssignment (mathByte push 44#6) s

/-- SUB_SWAP: math entry 45 (R262, R248). -/
def execMathSubSwap (push : Bool) (s : State) : Host.Outcome State Fault Refusal :=
  decodeAssignment (mathByte push 45#6) s

/-- SAR_SWAP: math entry 46 (R263, R248). -/
def execMathSarSwap (push : Bool) (s : State) : Host.Outcome State Fault Refusal :=
  decodeAssignment (mathByte push 46#6) s

/-- REV_SWAP: math entry 47 (R264, R248). -/
def execMathRevSwap (push : Bool) (s : State) : Host.Outcome State Fault Refusal :=
  decodeAssignment (mathByte push 47#6) s

/-- LOG_AND_SWAP: math entry 48 (R265, R248). -/
def execMathLogAndSwap (push : Bool) (s : State) : Host.Outcome State Fault Refusal :=
  decodeAssignment (mathByte push 48#6) s

/-- ENCODE_SWAP: math entry 49 (R266, R248). -/
def execMathEncodeSwap (push : Bool) (s : State) : Host.Outcome State Fault Refusal :=
  decodeAssignment (mathByte push 49#6) s

/-- LOG_OR_SWAP: math entry 50 (R267, R248). -/
def execMathLogOrSwap (push : Bool) (s : State) : Host.Outcome State Fault Refusal :=
  decodeAssignment (mathByte push 50#6) s

/-- DECODE_SWAP: math entry 51 (R268, R248). -/
def execMathDecodeSwap (push : Bool) (s : State) : Host.Outcome State Fault Refusal :=
  decodeAssignment (mathByte push 51#6) s

/-- MUL_SWAP: math entry 52 (R269, R248). -/
def execMathMulSwap (push : Bool) (s : State) : Host.Outcome State Fault Refusal :=
  decodeAssignment (mathByte push 52#6) s

/-- MUL_HI_SWAP: math entry 53 (R270, R248). -/
def execMathMulHiSwap (push : Bool) (s : State) : Host.Outcome State Fault Refusal :=
  decodeAssignment (mathByte push 53#6) s

/-- DIV_SWAP: math entry 54 (R271, R248). -/
def execMathDivSwap (push : Bool) (s : State) : Host.Outcome State Fault Refusal :=
  decodeAssignment (mathByte push 54#6) s

/-- MOD_SWAP: math entry 55 (R272, R248). -/
def execMathModSwap (push : Bool) (s : State) : Host.Outcome State Fault Refusal :=
  decodeAssignment (mathByte push 55#6) s

/-- SQRT_SWAP: math entry 56 (R273, R248). -/
def execMathSqrtSwap (push : Bool) (s : State) : Host.Outcome State Fault Refusal :=
  decodeAssignment (mathByte push 56#6) s

/-- LT_SWAP: math entry 57 (R274, R248). -/
def execMathLtSwap (push : Bool) (s : State) : Host.Outcome State Fault Refusal :=
  decodeAssignment (mathByte push 57#6) s

/-- GT_SWAP: math entry 58 (R275, R248). -/
def execMathGtSwap (push : Bool) (s : State) : Host.Outcome State Fault Refusal :=
  decodeAssignment (mathByte push 58#6) s

/-- NE_SWAP: math entry 59 (R276, R248). -/
def execMathNeSwap (push : Bool) (s : State) : Host.Outcome State Fault Refusal :=
  decodeAssignment (mathByte push 59#6) s

/-- EQ_SWAP: math entry 60 (R277, R248). -/
def execMathEqSwap (push : Bool) (s : State) : Host.Outcome State Fault Refusal :=
  decodeAssignment (mathByte push 60#6) s

/-- LE_SWAP: math entry 61 (R278, R248). -/
def execMathLeSwap (push : Bool) (s : State) : Host.Outcome State Fault Refusal :=
  decodeAssignment (mathByte push 61#6) s

/-- GE_SWAP: math entry 62 (R279, R248). -/
def execMathGeSwap (push : Bool) (s : State) : Host.Outcome State Fault Refusal :=
  decodeAssignment (mathByte push 62#6) s

/-- LOG_NOT_SWAP: math entry 63 (R280, R248). -/
def execMathLogNotSwap (push : Bool) (s : State) : Host.Outcome State Fault Refusal :=
  decodeAssignment (mathByte push 63#6) s

end Sys2Proof.Machine
end

