-- ==== Sys2Proof/Machine/MemoryOperation.lean ====
section
/-! DEFINITION. The memory-operation decoder as a shared operation, and the register tables it reads (R290 to R300). -/

namespace Sys2Proof.Machine

/-- `SPECIAL_REGS[index]` (R25), with its index. -/
def specialEntry (t : Tables) (index : BitVec 4) : RegisterEntry :=
  .special index (t.special[index.toNat]'(by have := index.isLt; omega))

/-- `SLOT_REGS[index]` (R27), with its index. -/
def slotEntry (t : Tables) (index : BitVec 4) : RegisterEntry :=
  .slot index (t.slots[index.toNat]'(by have := index.isLt; omega))

/-- `MEMOP_ACTION_CLASS[action]` (R293). -/
def actionClassOf (t : Tables) (action : BitVec 4) : ActionClass :=
  t.memopClass[action.toNat]'(by have := action.isLt; omega)

/-- The register of a memory-operation byte: b[4] selects the special table, else the slot table (R295). -/
def memopRegister (t : Tables) (b : Byte) : RegisterEntry :=
  if memopSel b then specialEntry t (memopIndex b) else slotEntry t (memopIndex b)

/-- The outcome of a memory-operation byte: always a record, an Unknown class included (R290, R293, R300). -/
def memopOutcome (t : Tables) (b : Byte) (consumed : Nat) : CallOutcome :=
  .success (.memoryOperation
    { byte := b, addr := memopAddr t.memopRegBase b, sel := memopSel b, index := memopIndex b,
      action := actionCode b, actionClass := actionClassOf t (actionCode b), reg := memopRegister t b,
      consumed := consumed })

/-- `decode_memory_operation` on the byte `b`: one byte is pulled (R290). -/
def decodeMemoryOperation (b : Byte) (s : State) : Host.Outcome State Fault Refusal :=
  streamCall 1 (memopOutcome s.tables b) s

end Sys2Proof.Machine
end

