-- ==== Sys2Proof/Machine/Memop.lean ====
section
/-! DEFINITION. Meanings of the eight memory-operation rows, by action code (R290 to R300). -/

namespace Sys2Proof.Machine

/-- MEMOP_UNKNOWN_A0: action code 0 (R299). -/
def execMemopUnknownA0 (sel : Bool) (index : BitVec 4) (s : State) : Host.Outcome State Fault Refusal :=
  decodeMemoryOperation (memopByte 0#3 sel index) s

/-- MEMOP_UNKNOWN_A1: action code 1 (R299). -/
def execMemopUnknownA1 (sel : Bool) (index : BitVec 4) (s : State) : Host.Outcome State Fault Refusal :=
  decodeMemoryOperation (memopByte 1#3 sel index) s

/-- MEMOP_UNKNOWN_A2: action code 2 (R299). -/
def execMemopUnknownA2 (sel : Bool) (index : BitVec 4) (s : State) : Host.Outcome State Fault Refusal :=
  decodeMemoryOperation (memopByte 2#3 sel index) s

/-- MEMOP_UNKNOWN_A3: action code 3 (R299). -/
def execMemopUnknownA3 (sel : Bool) (index : BitVec 4) (s : State) : Host.Outcome State Fault Refusal :=
  decodeMemoryOperation (memopByte 3#3 sel index) s

/-- MEMOP_PUSH_A4: action code 4 (R296). -/
def execMemopPushA4 (sel : Bool) (index : BitVec 4) (s : State) : Host.Outcome State Fault Refusal :=
  decodeMemoryOperation (memopByte 4#3 sel index) s

/-- MEMOP_POP_A5: action code 5 (R297). -/
def execMemopPopA5 (sel : Bool) (index : BitVec 4) (s : State) : Host.Outcome State Fault Refusal :=
  decodeMemoryOperation (memopByte 5#3 sel index) s

/-- MEMOP_EFFECT_A6: action code 6 (R298). -/
def execMemopEffectA6 (sel : Bool) (index : BitVec 4) (s : State) : Host.Outcome State Fault Refusal :=
  decodeMemoryOperation (memopByte 6#3 sel index) s

/-- MEMOP_UNKNOWN_A7: action code 7 (R299). -/
def execMemopUnknownA7 (sel : Bool) (index : BitVec 4) (s : State) : Host.Outcome State Fault Refusal :=
  decodeMemoryOperation (memopByte 7#3 sel index) s

end Sys2Proof.Machine
end

