-- ==== Sys2Proof/Machine/Unpack.lean ====
section
/-! DEFINITION. Meanings of the operand rows: the seven unpacking rules (R210 to R222). -/

namespace Sys2Proof.Machine

/-- Signed offset, one byte (R211). -/
def execOperandSignedOffset1 (v : BitVec 7) (s : State) : Host.Outcome State Fault Refusal :=
  streamCall 1 (valueOutcome (signedOffsetShort v)) s

/-- Signed offset, two bytes (R211). -/
def execOperandSignedOffset2 (hi : BitVec 7) (lo : Byte) (s : State) : Host.Outcome State Fault Refusal :=
  streamCall 2 (valueOutcome (signedOffsetLong hi lo)) s

/-- Signed packed offset, one byte (R212). -/
def execOperandSignedPackedOffset1 (v : BitVec 7) (s : State) : Host.Outcome State Fault Refusal :=
  streamCall 1 (valueOutcome (signedPackedOffsetShort v)) s

/-- Signed packed offset, two bytes (R212). -/
def execOperandSignedPackedOffset2 (hi : BitVec 7) (lo : Byte) (s : State) : Host.Outcome State Fault Refusal :=
  streamCall 2 (valueOutcome (signedPackedOffsetLong hi lo)) s

/-- Packed literal of a byte below 0x80 (R213). -/
def execOperandPackedLiteral (complement decrement : Bool) (exponent : BitVec 5) (s : State) : Host.Outcome State Fault Refusal :=
  streamCall 1 (literalOutcome (packedLiteralValue complement decrement exponent) false) s

/-- Packed literal of a byte 0x80 or more: the sentinel with the diagnostic bit, the low bits ignored; a success, not a
failure (R214, R313). -/
def execOperandPackedLiteralMalformed (_low : BitVec 7) (s : State) : Host.Outcome State Fault Refusal :=
  streamCall 1 (literalOutcome malformedSentinel true) s

/-- Packed (unsigned) offset, one byte (R215). -/
def execOperandPackedOffset1 (v : BitVec 7) (s : State) : Host.Outcome State Fault Refusal :=
  streamCall 1 (valueOutcome (packedOffsetShort v)) s

/-- Packed (unsigned) offset, two bytes (R215). -/
def execOperandPackedOffset2 (hi : BitVec 7) (lo : Byte) (s : State) : Host.Outcome State Fault Refusal :=
  streamCall 2 (valueOutcome (packedOffsetLong hi lo)) s

/-- Word literal (R216). -/
def execOperandWord (b0 b1 : Byte) (s : State) : Host.Outcome State Fault Refusal :=
  streamCall 2 (valueOutcome (wordValue b0 b1)) s

/-- Near-long literal (R217). -/
def execOperandNearLong (b0 b1 b2 : Byte) (s : State) : Host.Outcome State Fault Refusal :=
  streamCall 3 (valueOutcome (nearLongValue b0 b1 b2)) s

/-- Long literal (R218). -/
def execOperandLong (b0 b1 b2 b3 : Byte) (s : State) : Host.Outcome State Fault Refusal :=
  streamCall 4 (valueOutcome (longValue b0 b1 b2 b3)) s

end Sys2Proof.Machine
end

