-- ==== Sys2Proof/Machine/Dispatch.lean ====
section
/-! DEFINITION. The meaning of each instruction: one arm per constructor of Instr, one direct call each. -/

namespace Sys2Proof.Machine

def exec (i : Instr) (s : State) : Host.Outcome State Fault Refusal :=
  match i with
  | .asmRdbyte o => Sys2Proof.Machine.execAsmRdbyte o s
  | .asmWrbyte o => Sys2Proof.Machine.execAsmWrbyte o s
  | .asmRdword o => Sys2Proof.Machine.execAsmRdword o s
  | .asmWrword o => Sys2Proof.Machine.execAsmWrword o s
  | .asmRdlong o => Sys2Proof.Machine.execAsmRdlong o s
  | .asmWrlong o => Sys2Proof.Machine.execAsmWrlong o s
  | .asmClkset o => Sys2Proof.Machine.execAsmClkset o s
  | .asmCogid o => Sys2Proof.Machine.execAsmCogid o s
  | .asmCoginit o => Sys2Proof.Machine.execAsmCoginit o s
  | .asmCogstop o => Sys2Proof.Machine.execAsmCogstop o s
  | .asmLocknew o => Sys2Proof.Machine.execAsmLocknew o s
  | .asmLockret o => Sys2Proof.Machine.execAsmLockret o s
  | .asmLockset o => Sys2Proof.Machine.execAsmLockset o s
  | .asmLockclr o => Sys2Proof.Machine.execAsmLockclr o s
  | .asmHubop => Sys2Proof.Machine.execAsmHubop s
  | .asmMul o => Sys2Proof.Machine.execAsmMul o s
  | .asmMuls o => Sys2Proof.Machine.execAsmMuls o s
  | .asmEnc o => Sys2Proof.Machine.execAsmEnc o s
  | .asmOnes o => Sys2Proof.Machine.execAsmOnes o s
  | .asmRor o => Sys2Proof.Machine.execAsmRor o s
  | .asmRol o => Sys2Proof.Machine.execAsmRol o s
  | .asmShr o => Sys2Proof.Machine.execAsmShr o s
  | .asmShl o => Sys2Proof.Machine.execAsmShl o s
  | .asmRcr o => Sys2Proof.Machine.execAsmRcr o s
  | .asmRcl o => Sys2Proof.Machine.execAsmRcl o s
  | .asmSar o => Sys2Proof.Machine.execAsmSar o s
  | .asmRev o => Sys2Proof.Machine.execAsmRev o s
  | .asmMins o => Sys2Proof.Machine.execAsmMins o s
  | .asmMaxs o => Sys2Proof.Machine.execAsmMaxs o s
  | .asmMin o => Sys2Proof.Machine.execAsmMin o s
  | .asmMax o => Sys2Proof.Machine.execAsmMax o s
  | .asmMovs o => Sys2Proof.Machine.execAsmMovs o s
  | .asmMovd o => Sys2Proof.Machine.execAsmMovd o s
  | .asmMovi o => Sys2Proof.Machine.execAsmMovi o s
  | .asmRet o => Sys2Proof.Machine.execAsmRet o s
  | .asmJmp o => Sys2Proof.Machine.execAsmJmp o s
  | .asmJmpret o => Sys2Proof.Machine.execAsmJmpret o s
  | .asmCall o => Sys2Proof.Machine.execAsmCall o s
  | .asmAnd o => Sys2Proof.Machine.execAsmAnd o s
  | .asmTest o => Sys2Proof.Machine.execAsmTest o s
  | .asmAndn o => Sys2Proof.Machine.execAsmAndn o s
  | .asmTestn o => Sys2Proof.Machine.execAsmTestn o s
  | .asmOr o => Sys2Proof.Machine.execAsmOr o s
  | .asmXor o => Sys2Proof.Machine.execAsmXor o s
  | .asmMuxc o => Sys2Proof.Machine.execAsmMuxc o s
  | .asmMuxnc o => Sys2Proof.Machine.execAsmMuxnc o s
  | .asmMuxz o => Sys2Proof.Machine.execAsmMuxz o s
  | .asmMuxnz o => Sys2Proof.Machine.execAsmMuxnz o s
  | .asmAdd o => Sys2Proof.Machine.execAsmAdd o s
  | .asmSub o => Sys2Proof.Machine.execAsmSub o s
  | .asmCmp o => Sys2Proof.Machine.execAsmCmp o s
  | .asmAddabs o => Sys2Proof.Machine.execAsmAddabs o s
  | .asmSubabs o => Sys2Proof.Machine.execAsmSubabs o s
  | .asmSumc o => Sys2Proof.Machine.execAsmSumc o s
  | .asmSumnc o => Sys2Proof.Machine.execAsmSumnc o s
  | .asmSumz o => Sys2Proof.Machine.execAsmSumz o s
  | .asmSumnz o => Sys2Proof.Machine.execAsmSumnz o s
  | .asmMov o => Sys2Proof.Machine.execAsmMov o s
  | .asmNeg o => Sys2Proof.Machine.execAsmNeg o s
  | .asmAbs o => Sys2Proof.Machine.execAsmAbs o s
  | .asmAbsneg o => Sys2Proof.Machine.execAsmAbsneg o s
  | .asmNegc o => Sys2Proof.Machine.execAsmNegc o s
  | .asmNegnc o => Sys2Proof.Machine.execAsmNegnc o s
  | .asmNegz o => Sys2Proof.Machine.execAsmNegz o s
  | .asmNegnz o => Sys2Proof.Machine.execAsmNegnz o s
  | .asmCmps o => Sys2Proof.Machine.execAsmCmps o s
  | .asmCmpsx o => Sys2Proof.Machine.execAsmCmpsx o s
  | .asmAddx o => Sys2Proof.Machine.execAsmAddx o s
  | .asmSubx o => Sys2Proof.Machine.execAsmSubx o s
  | .asmCmpx o => Sys2Proof.Machine.execAsmCmpx o s
  | .asmAdds o => Sys2Proof.Machine.execAsmAdds o s
  | .asmSubs o => Sys2Proof.Machine.execAsmSubs o s
  | .asmAddsx o => Sys2Proof.Machine.execAsmAddsx o s
  | .asmSubsx o => Sys2Proof.Machine.execAsmSubsx o s
  | .asmCmpsub o => Sys2Proof.Machine.execAsmCmpsub o s
  | .asmDjnz o => Sys2Proof.Machine.execAsmDjnz o s
  | .asmTjnz o => Sys2Proof.Machine.execAsmTjnz o s
  | .asmTjz o => Sys2Proof.Machine.execAsmTjz o s
  | .asmWaitpeq o => Sys2Proof.Machine.execAsmWaitpeq o s
  | .asmWaitpne o => Sys2Proof.Machine.execAsmWaitpne o s
  | .asmWaitcnt o => Sys2Proof.Machine.execAsmWaitcnt o s
  | .asmWaitvid o => Sys2Proof.Machine.execAsmWaitvid o s
  | .memopUnknownA0 sel index => Sys2Proof.Machine.execMemopUnknownA0 sel index s
  | .memopUnknownA1 sel index => Sys2Proof.Machine.execMemopUnknownA1 sel index s
  | .memopUnknownA2 sel index => Sys2Proof.Machine.execMemopUnknownA2 sel index s
  | .memopUnknownA3 sel index => Sys2Proof.Machine.execMemopUnknownA3 sel index s
  | .memopPushA4 sel index => Sys2Proof.Machine.execMemopPushA4 sel index s
  | .memopPopA5 sel index => Sys2Proof.Machine.execMemopPopA5 sel index s
  | .memopEffectA6 sel index => Sys2Proof.Machine.execMemopEffectA6 sel index s
  | .memopUnknownA7 sel index => Sys2Proof.Machine.execMemopUnknownA7 sel index s
  | .assignWrite push bit2 bit0 => Sys2Proof.Machine.execAssignWrite push bit2 bit0 s
  | .assignRepeatCompare push bit2 bit0 => Sys2Proof.Machine.execAssignRepeatCompare push bit2 bit0 s
  | .assignRandomForward push bit1 bit0 => Sys2Proof.Machine.execAssignRandomForward push bit1 bit0 s
  | .assignRandomReverse push bit1 bit0 => Sys2Proof.Machine.execAssignRandomReverse push bit1 bit0 s
  | .assignSignExtendByte push bit1 bit0 => Sys2Proof.Machine.execAssignSignExtendByte push bit1 bit0 s
  | .assignSignExtendWord push bit1 bit0 => Sys2Proof.Machine.execAssignSignExtendWord push bit1 bit0 s
  | .assignPostClear push bit1 bit0 => Sys2Proof.Machine.execAssignPostClear push bit1 bit0 s
  | .assignPostSet push bit1 bit0 => Sys2Proof.Machine.execAssignPostSet push bit1 bit0 s
  | .assignPreIncBit push bit0 => Sys2Proof.Machine.execAssignPreIncBit push bit0 s
  | .assignPreIncByte push bit0 => Sys2Proof.Machine.execAssignPreIncByte push bit0 s
  | .assignPreIncWord push bit0 => Sys2Proof.Machine.execAssignPreIncWord push bit0 s
  | .assignPreIncLong push bit0 => Sys2Proof.Machine.execAssignPreIncLong push bit0 s
  | .assignPostIncBit push bit0 => Sys2Proof.Machine.execAssignPostIncBit push bit0 s
  | .assignPostIncByte push bit0 => Sys2Proof.Machine.execAssignPostIncByte push bit0 s
  | .assignPostIncWord push bit0 => Sys2Proof.Machine.execAssignPostIncWord push bit0 s
  | .assignPostIncLong push bit0 => Sys2Proof.Machine.execAssignPostIncLong push bit0 s
  | .assignPreDecBit push bit0 => Sys2Proof.Machine.execAssignPreDecBit push bit0 s
  | .assignPreDecByte push bit0 => Sys2Proof.Machine.execAssignPreDecByte push bit0 s
  | .assignPreDecWord push bit0 => Sys2Proof.Machine.execAssignPreDecWord push bit0 s
  | .assignPreDecLong push bit0 => Sys2Proof.Machine.execAssignPreDecLong push bit0 s
  | .assignPostDecBit push bit0 => Sys2Proof.Machine.execAssignPostDecBit push bit0 s
  | .assignPostDecByte push bit0 => Sys2Proof.Machine.execAssignPostDecByte push bit0 s
  | .assignPostDecWord push bit0 => Sys2Proof.Machine.execAssignPostDecWord push bit0 s
  | .assignPostDecLong push bit0 => Sys2Proof.Machine.execAssignPostDecLong push bit0 s
  | .mathRor push => Sys2Proof.Machine.execMathRor push s
  | .mathRol push => Sys2Proof.Machine.execMathRol push s
  | .mathShr push => Sys2Proof.Machine.execMathShr push s
  | .mathShl push => Sys2Proof.Machine.execMathShl push s
  | .mathMin push => Sys2Proof.Machine.execMathMin push s
  | .mathMax push => Sys2Proof.Machine.execMathMax push s
  | .mathNeg push => Sys2Proof.Machine.execMathNeg push s
  | .mathBitNot push => Sys2Proof.Machine.execMathBitNot push s
  | .mathAnd push => Sys2Proof.Machine.execMathAnd push s
  | .mathAbs push => Sys2Proof.Machine.execMathAbs push s
  | .mathOr push => Sys2Proof.Machine.execMathOr push s
  | .mathXor push => Sys2Proof.Machine.execMathXor push s
  | .mathAdd push => Sys2Proof.Machine.execMathAdd push s
  | .mathSub push => Sys2Proof.Machine.execMathSub push s
  | .mathSar push => Sys2Proof.Machine.execMathSar push s
  | .mathRev push => Sys2Proof.Machine.execMathRev push s
  | .mathLogAnd push => Sys2Proof.Machine.execMathLogAnd push s
  | .mathEncode push => Sys2Proof.Machine.execMathEncode push s
  | .mathLogOr push => Sys2Proof.Machine.execMathLogOr push s
  | .mathDecode push => Sys2Proof.Machine.execMathDecode push s
  | .mathMul push => Sys2Proof.Machine.execMathMul push s
  | .mathMulHi push => Sys2Proof.Machine.execMathMulHi push s
  | .mathDiv push => Sys2Proof.Machine.execMathDiv push s
  | .mathMod push => Sys2Proof.Machine.execMathMod push s
  | .mathSqrt push => Sys2Proof.Machine.execMathSqrt push s
  | .mathLt push => Sys2Proof.Machine.execMathLt push s
  | .mathGt push => Sys2Proof.Machine.execMathGt push s
  | .mathNe push => Sys2Proof.Machine.execMathNe push s
  | .mathEq push => Sys2Proof.Machine.execMathEq push s
  | .mathLe push => Sys2Proof.Machine.execMathLe push s
  | .mathGe push => Sys2Proof.Machine.execMathGe push s
  | .mathLogNot push => Sys2Proof.Machine.execMathLogNot push s
  | .mathRorSwap push => Sys2Proof.Machine.execMathRorSwap push s
  | .mathRolSwap push => Sys2Proof.Machine.execMathRolSwap push s
  | .mathShrSwap push => Sys2Proof.Machine.execMathShrSwap push s
  | .mathShlSwap push => Sys2Proof.Machine.execMathShlSwap push s
  | .mathMinSwap push => Sys2Proof.Machine.execMathMinSwap push s
  | .mathMaxSwap push => Sys2Proof.Machine.execMathMaxSwap push s
  | .mathNegSwap push => Sys2Proof.Machine.execMathNegSwap push s
  | .mathBitNotSwap push => Sys2Proof.Machine.execMathBitNotSwap push s
  | .mathAndSwap push => Sys2Proof.Machine.execMathAndSwap push s
  | .mathAbsSwap push => Sys2Proof.Machine.execMathAbsSwap push s
  | .mathOrSwap push => Sys2Proof.Machine.execMathOrSwap push s
  | .mathXorSwap push => Sys2Proof.Machine.execMathXorSwap push s
  | .mathAddSwap push => Sys2Proof.Machine.execMathAddSwap push s
  | .mathSubSwap push => Sys2Proof.Machine.execMathSubSwap push s
  | .mathSarSwap push => Sys2Proof.Machine.execMathSarSwap push s
  | .mathRevSwap push => Sys2Proof.Machine.execMathRevSwap push s
  | .mathLogAndSwap push => Sys2Proof.Machine.execMathLogAndSwap push s
  | .mathEncodeSwap push => Sys2Proof.Machine.execMathEncodeSwap push s
  | .mathLogOrSwap push => Sys2Proof.Machine.execMathLogOrSwap push s
  | .mathDecodeSwap push => Sys2Proof.Machine.execMathDecodeSwap push s
  | .mathMulSwap push => Sys2Proof.Machine.execMathMulSwap push s
  | .mathMulHiSwap push => Sys2Proof.Machine.execMathMulHiSwap push s
  | .mathDivSwap push => Sys2Proof.Machine.execMathDivSwap push s
  | .mathModSwap push => Sys2Proof.Machine.execMathModSwap push s
  | .mathSqrtSwap push => Sys2Proof.Machine.execMathSqrtSwap push s
  | .mathLtSwap push => Sys2Proof.Machine.execMathLtSwap push s
  | .mathGtSwap push => Sys2Proof.Machine.execMathGtSwap push s
  | .mathNeSwap push => Sys2Proof.Machine.execMathNeSwap push s
  | .mathEqSwap push => Sys2Proof.Machine.execMathEqSwap push s
  | .mathLeSwap push => Sys2Proof.Machine.execMathLeSwap push s
  | .mathGeSwap push => Sys2Proof.Machine.execMathGeSwap push s
  | .mathLogNotSwap push => Sys2Proof.Machine.execMathLogNotSwap push s
  | .operandSignedOffset1 v => Sys2Proof.Machine.execOperandSignedOffset1 v s
  | .operandSignedOffset2 hi lo => Sys2Proof.Machine.execOperandSignedOffset2 hi lo s
  | .operandSignedPackedOffset1 v => Sys2Proof.Machine.execOperandSignedPackedOffset1 v s
  | .operandSignedPackedOffset2 hi lo => Sys2Proof.Machine.execOperandSignedPackedOffset2 hi lo s
  | .operandPackedLiteral complement decrement exponent => Sys2Proof.Machine.execOperandPackedLiteral complement decrement exponent s
  | .operandPackedLiteralMalformed low => Sys2Proof.Machine.execOperandPackedLiteralMalformed low s
  | .operandPackedOffset1 v => Sys2Proof.Machine.execOperandPackedOffset1 v s
  | .operandPackedOffset2 hi lo => Sys2Proof.Machine.execOperandPackedOffset2 hi lo s
  | .operandWord b0 b1 => Sys2Proof.Machine.execOperandWord b0 b1 s
  | .operandNearLong b0 b1 b2 => Sys2Proof.Machine.execOperandNearLong b0 b1 b2 s
  | .operandLong b0 b1 b2 b3 => Sys2Proof.Machine.execOperandLong b0 b1 b2 b3 s

end Sys2Proof.Machine
end

