-- ==== Sys2Proof/Machine/Lookup.lean ====
section
/-! DEFINITION. The entry points that no opcode-table row stands for: `resolve`, `cond_lookup` and `reg_lookup` (R15).
Each takes values, reads no stream and delivers its result. -/

namespace Sys2Proof.Machine

/-- The lowest address of a table's window (R24, R124). -/
def windowBase (t : Tables) : RegTable → RegAddr
  | .special => Config.specialBase
  | .slot => t.memopRegBase

/-- The 16 addresses of a table's window (R124). -/
def inWindow (t : Tables) (table : RegTable) (addr : RegAddr) : Bool :=
  decide ((windowBase t table).toNat ≤ addr.toNat) && decide (addr.toNat ≤ (windowBase t table).toNat + 15)

/-- `reg_lookup(table, addr)` (R124): the entry at `addr` minus the window's base; none outside the window. -/
def regLookup (t : Tables) (table : RegTable) (addr : RegAddr) : Option RegisterEntry :=
  if inWindow t table addr then
    let index := (addr - windowBase t table).setWidth 4
    match table with
    | .special => some (specialEntry t index)
    | .slot => some (slotEntry t index)
  else none

/-- A call of `resolve` (R110). -/
def callResolve (instr : BitVec 6) (zcri : BitVec 4) (src : RegAddr) (s : State) : Host.Outcome State Fault Refusal :=
  let rv := resolve s.tables instr zcri src
  .next (s.deliver (.success (.variant rv.1 rv.2)))

/-- A call of `cond_lookup` (R120): the whole list, no synonym chosen (R123). -/
def callCondLookup (con : BitVec 4) (s : State) : Host.Outcome State Fault Refusal :=
  .next (s.deliver (.success (.conditions (condSynonyms s.tables con))))

/-- A call of `reg_lookup` (R124). Outside the window it is refused, with no result (R125, decision D29). -/
def callRegLookup (table : RegTable) (addr : RegAddr) (s : State) : Host.Outcome State Fault Refusal :=
  match regLookup s.tables table addr with
  | some r => .next (s.deliver (.success (.register r)))
  | none => .refused .lookupOutsideWindow

end Sys2Proof.Machine
end

