-- ==== Sys2Proof/Machine/Serve.lean ====
section
/-! DEFINITION. What the step needs to serve a request: fetching the instruction at a stream's cursor, and the
one-owner rule of cursors (R62, R343). -/

namespace Sys2Proof.Machine

/-- The longest operand form: four bytes (R218, R350). -/
def longestForm : Nat := 4

/-- What stands at the presented cursor: an instruction, or the state in which the call has ended without one. -/
inductive Fetched where
  | instruction (i : Instr)
  | stop (s : State)
deriving DecidableEq, Repr

/-- Ends a call whose form needs `needed` bytes and finds fewer: the bytes that are there are pulled and stay consumed,
and StreamExhausted records how many (R219, R311). -/
def endExhausted (needed : Nat) (s : State) : State :=
  match readBytes needed s.beginOperation with
  | .error s' => s'.deliver (.streamExhausted s'.pulled)
  | .ok s' => s'.deliver (.streamExhausted s'.pulled)

/-- The instruction an entry point finds at the presented cursor, without moving it: its meaning pulls the bytes. An
absent handle ends the call before any byte is read (R51, R220, R317). -/
def fetch (e : ByteEntry) (s : State) : Fetched :=
  match s.cursor? with
  | none => .stop (s.deliver .invalidArgument)
  | some p =>
    match decodeBytes e (Memory.peek s.image p longestForm) with
    | .ok (i, _) => .instruction i
    | .error (.truncated needed) => .stop (endExhausted needed s)

/-- The stream handle of a request, if it is a bytecode call with one. -/
def requestHandle : Request → Option Nat
  | .call (.bytecode _ handle) => handle
  | _ => none

/-- The open streams a sequence holds: those that any request it still has to make names (R62), a stream being open when
its handle is below `opened`, the number of streams. A handle of NO open stream is an absent one, so nobody holds a cursor
by it: two sequences may both name it, and each of their calls ends with InvalidArgument. The spec knows present and
absent streams only: DESIGN CHOICE, notes/assumptions/6.md, 12.md. -/
def streamsHeld (opened : Nat) (sequence : List Request) : List Nat :=
  (sequence.filterMap requestHandle).filter fun h => decide (h < opened)

/-- Two of the sequences, any two, hold one open stream (R62, R343). -/
def cursorsShared (opened : Nat) : List (List Request) → Bool
  | [] => false
  | sequence :: others =>
    others.any (fun other => (streamsHeld opened sequence).any fun h => (streamsHeld opened other).contains h)
      || cursorsShared opened others

/-- The sequences of the state share a cursor: the precondition of R62 is violated, and the step refuses (R343,
decision D19). -/
def State.sharesCursor (s : State) : Bool := cursorsShared s.cursors.length s.sequences

end Sys2Proof.Machine
end

