-- ==== Sys2Proof/Machine/Step.lean ====
section
/-! DEFINITION. One step: the machine serves the first request of the first decoding sequence. -/

namespace Sys2Proof.Machine

/-- A call is served. An assembly call runs the instruction of its opcode; a bytecode call presents its handle and runs
the instruction that stands at its cursor, or ends at once where the handle is absent or the bytes run out; the other
entry points take values. -/
def serveCall (c : Call) (s : State) : Host.Outcome State Fault Refusal :=
  match c with
  | .assembly op => exec (decodeAsm op) s
  | .bytecode e handle =>
    match fetch e (s.present handle) with
    | .instruction i => exec i (s.present handle)
    | .stop t => .next t
  | .resolve instr zcri src => callResolve instr zcri src s
  | .condLookup con => callCondLookup con s
  | .regLookup table addr => callRegLookup table addr s

/-- One request is served. -/
def serve (q : Request) (s : State) : Host.Outcome State Fault Refusal :=
  match q with
  | .call c => serveCall c s
  | .writeImage a b => .next (s.writeImage a b)
  | .openStream start => .next (s.openStream start)
  | .resetBlock => .next s.blockReset

/-- One step. A state whose sequences share a cursor is refused (R62, R343). Else, with no sequence the block is idle
(R319); a sequence with no request left goes; and the first request of the first sequence is served, the sequence taking
its place behind the others, so that every sequence is served in turn. -/
def step (s : State) : Host.Outcome State Fault Refusal :=
  if s.sharesCursor then .refused .sharedCursor
  else
    match s.sequences with
    | [] => .next s
    | [] :: others => .next (s.withSequences others)
    | (q :: later) :: others => serve q (s.withSequences (others ++ [later]))

/-- `s` with one more sequence, in front, that makes the one call whose input is the table word, on a stream of its own
for a bytecode call: its bytes are written past every listed address of the image, and its cursor stands on them. The
very next step serves that call. A word of a length the table does not have changes nothing. -/
def State.withFetchWord (s : State) (nbits w : Nat) : State :=
  match tableEncoding nbits w with
  | none => s
  | some (.opcode op) => s.withSequences ([.call (.assembly op)] :: s.sequences)
  | some (.stream e bytes) =>
    { s with
      image := Memory.writeList s.image (Memory.top s.image) bytes
      cursors := s.cursors ++ [Memory.top s.image]
      sequences := [.call (.bytecode e (some s.cursors.length))] :: s.sequences }

end Sys2Proof.Machine
end

