-- ==== Sys2Proof/Safety.lean ====
section
/-! DEFINITION. What counts as a safe run, and the terms the statements use: the invariant, the callers' contract, the
state after a call has ended, what stands at a cursor, and the rows of the opcode table by family. -/

namespace Sys2Proof

open Sys2Proof.Machine

/-! ### Safe runs -/

/-- The block holds nothing between calls: no latch, no handle, no held bytes (R20, R28, R29, R340). -/
def BlockIdle (s : State) : Prop := s.latch = none ∧ s.handle = none ∧ s.held = none

/-- The invariant of the machine: the block is idle, the image has its canonical form, and the tables keep the
constraints the spec puts on any contents (R8, R22). -/
def Inv (s : State) : Prop := BlockIdle s ∧ Memory.wf s.image = true ∧ tablesWf s.tables = true

/-- A request that keeps the contract of the lookups: a register is looked up inside its table's window (R125, R346). -/
def InContract (t : Tables) : Request → Prop
  | .call (.regLookup table addr) => inWindow t table addr = true
  | _ => True

/-- What the callers must respect for the next step (R62, R343, R346): no two sequences share a cursor, and the first
request of the first sequence keeps the lookups' contract. -/
def CallerContract (s : State) : Prop :=
  s.sharesCursor = false ∧
  match s.sequences with
  | (q :: _) :: _ => InContract s.tables q
  | _ => True

/-- The sequence still has a call on stream `h` to make: it holds that stream (R62). -/
def NamesStream (sequence : List Request) (h : Nat) : Prop := ∃ e, Request.call (.bytecode e (some h)) ∈ sequence

/-- The step completes: it gives a next state. -/
def Completes (s : State) : Prop := ∃ t, step s = .next t

/-! ### The end of a call -/

/-- `s` after a call that handed its caller `o` and read no byte: the block is idle and everything else is as it was. -/
def ended (o : CallOutcome) (s : State) : State :=
  { tables := s.tables, latch := none, handle := none, held := none, outcome := some o, image := s.image,
    cursors := s.cursors, sequences := s.sequences }

/-- `s` after a call that handed its caller `o` and left the cursor of stream `h` at `p`: the block is idle and
everything else, the other cursors among it, is as it was. -/
def endedAt (o : CallOutcome) (h p : Nat) (s : State) : State :=
  { tables := s.tables, latch := none, handle := none, held := none, outcome := some o, image := s.image,
    cursors := s.cursors.set h p, sequences := s.sequences }

/-! ### Streams -/

/-- The bytes `bs` stand in the image from address `p` on. -/
def BytesAt (s : State) (p : Nat) (bs : List Byte) : Prop :=
  ∀ k b, bs[k]? = some b → Memory.read s.image (p + k) = some b

/-- The call's handle is `h`, its cursor stands at `p`, and the bytes `bs` stand there. -/
def StreamAt (s : State) (h p : Nat) (bs : List Byte) : Prop :=
  s.handle = some h ∧ s.cursors[h]? = some p ∧ BytesAt s p bs

/-- As `StreamAt`, and the stream ends after those bytes. -/
def StreamEnds (s : State) (h p : Nat) (bs : List Byte) : Prop :=
  StreamAt s h p bs ∧ Memory.read s.image (p + bs.length) = none

/-- A call of the entry point on a stream that has only `bs` left ends with StreamExhausted: the bytes that are there
are pulled, stay consumed, and are counted; no value is delivered. -/
def CallExhausts (e : ByteEntry) (bs : List Byte) : Prop :=
  ∀ (s : State) (h p : Nat), s.cursors[h]? = some p → BytesAt s p bs → Memory.read s.image (p + bs.length) = none →
    serveCall (.bytecode e (some h)) s = .next (endedAt (.streamExhausted bs.length) h (p + bs.length) s)

/-- Where the bytes `bs` stand, the call of `i` delivers `v` and consumes them. -/
def DeliversValue (i : Instr) (bs : List Byte) (v : Value) (malformed : Option Bool) : Prop :=
  ∀ (s : State) (h p : Nat), StreamAt s h p bs →
    exec i s = .next (endedAt (.success (.value { value := v, consumed := bs.length, malformed := malformed })) h
      (p + bs.length) s)

/-- The bytes at a cursor are too few for an entry point: none at all; one byte of a two-byte offset form; or fewer
than a fixed-width literal has (R82, R219). -/
def TooShort (e : ByteEntry) (bs : List Byte) : Prop :=
  bs = [] ∨
  ((e = .signedOffset ∨ e = .signedPackedOffset ∨ e = .packedOffset) ∧ ∃ b0, bs = [b0] ∧ b0.getLsbD 7 = true) ∨
  (e = .word ∧ bs.length < 2) ∨ (e = .nearLong ∧ bs.length < 3) ∨ (e = .long ∧ bs.length < 4)

/-! ### The rows of the opcode table, by family -/

/-- The Normal rows below INSTR 32: INSTR, name, constructor. -/
def normalRowsLow : List (BitVec 6 × String × (FullOps → Instr)) :=
  [(4#6, "MUL", .asmMul), (5#6, "MULS", .asmMuls), (6#6, "ENC", .asmEnc), (7#6, "ONES", .asmOnes),
   (8#6, "ROR", .asmRor), (9#6, "ROL", .asmRol), (10#6, "SHR", .asmShr), (11#6, "SHL", .asmShl),
   (12#6, "RCR", .asmRcr), (13#6, "RCL", .asmRcl), (14#6, "SAR", .asmSar), (15#6, "REV", .asmRev),
   (16#6, "MINS", .asmMins), (17#6, "MAXS", .asmMaxs), (18#6, "MIN", .asmMin), (19#6, "MAX", .asmMax),
   (20#6, "MOVS", .asmMovs), (21#6, "MOVD", .asmMovd), (22#6, "MOVI", .asmMovi), (26#6, "OR", .asmOr),
   (27#6, "XOR", .asmXor), (28#6, "MUXC", .asmMuxc), (29#6, "MUXNC", .asmMuxnc), (30#6, "MUXZ", .asmMuxz),
   (31#6, "MUXNZ", .asmMuxnz)]

/-- The Normal rows from INSTR 32 on. -/
def normalRowsHigh : List (BitVec 6 × String × (FullOps → Instr)) :=
  [(32#6, "ADD", .asmAdd), (34#6, "ADDABS", .asmAddabs), (35#6, "SUBABS", .asmSubabs), (36#6, "SUMC", .asmSumc),
   (37#6, "SUMNC", .asmSumnc), (38#6, "SUMZ", .asmSumz), (39#6, "SUMNZ", .asmSumnz), (40#6, "MOV", .asmMov),
   (41#6, "NEG", .asmNeg), (42#6, "ABS", .asmAbs), (43#6, "ABSNEG", .asmAbsneg), (44#6, "NEGC", .asmNegc),
   (45#6, "NEGNC", .asmNegnc), (46#6, "NEGZ", .asmNegz), (47#6, "NEGNZ", .asmNegnz), (48#6, "CMPS", .asmCmps),
   (49#6, "CMPSX", .asmCmpsx), (50#6, "ADDX", .asmAddx), (52#6, "ADDS", .asmAdds), (53#6, "SUBS", .asmSubs),
   (54#6, "ADDSX", .asmAddsx), (55#6, "SUBSX", .asmSubsx), (56#6, "CMPSUB", .asmCmpsub), (57#6, "DJNZ", .asmDjnz),
   (58#6, "TJNZ", .asmTjnz), (59#6, "TJZ", .asmTjz), (60#6, "WAITPEQ", .asmWaitpeq), (61#6, "WAITPNE", .asmWaitpne),
   (62#6, "WAITCNT", .asmWaitcnt), (63#6, "WAITVID", .asmWaitvid)]

/-- The WR rows: INSTR, R, name, constructor. -/
def wrRows : List (BitVec 6 × Bool × String × (FixedROps → Instr)) :=
  [(0#6, true, "RDBYTE", .asmRdbyte), (0#6, false, "WRBYTE", .asmWrbyte),
   (1#6, true, "RDWORD", .asmRdword), (1#6, false, "WRWORD", .asmWrword),
   (2#6, true, "RDLONG", .asmRdlong), (2#6, false, "WRLONG", .asmWrlong),
   (24#6, true, "AND", .asmAnd), (24#6, false, "TEST", .asmTest),
   (25#6, true, "ANDN", .asmAndn), (25#6, false, "TESTN", .asmTestn),
   (33#6, true, "SUB", .asmSub), (33#6, false, "CMP", .asmCmp),
   (51#6, true, "SUBX", .asmSubx), (51#6, false, "CMPX", .asmCmpx)]

/-- The Hub rows: SRC[2:0], name, constructor. -/
def hubRows : List (BitVec 3 × String × (HubOps → Instr)) :=
  [(0#3, "CLKSET", .asmClkset), (1#3, "COGID", .asmCogid), (2#3, "COGINIT", .asmCoginit), (3#3, "COGSTOP", .asmCogstop),
   (4#3, "LOCKNEW", .asmLocknew), (5#3, "LOCKRET", .asmLockret), (6#3, "LOCKSET", .asmLockset), (7#3, "LOCKCLR", .asmLockclr)]

/-- The memory-operation rows: action bits, class, constructor. -/
def memopRows : List (BitVec 3 × ActionClass × (Bool → BitVec 4 → Instr)) :=
  [(0#3, .unknown, .memopUnknownA0), (1#3, .unknown, .memopUnknownA1),
   (2#3, .unknown, .memopUnknownA2), (3#3, .unknown, .memopUnknownA3),
   (4#3, .push, .memopPushA4), (5#3, .pop, .memopPopA5),
   (6#3, .effect, .memopEffectA6), (7#3, .unknown, .memopUnknownA7)]

/-- The rows of family 0 (write-repeat rule): Bit1, name, operand rule, constructor over push, Bit2, b[0]. -/
def writeRepeatRows : List (Bool × String × OperandRule × (Bool → Bool → Bool → Instr)) :=
  [(false, "WRITE", .none, .assignWrite), (true, "REPEAT_COMPARE", .signedOffset, .assignRepeatCompare)]

/-- The rows of families 1 to 3 (normal rule): family, Bit2, name, constructor over push, Bit1, b[0]. -/
def normalFamilyRows : List (BitVec 3 × Bool × String × (Bool → Bool → Bool → Instr)) :=
  [(1#3, false, "RANDOM_FORWARD", .assignRandomForward), (1#3, true, "RANDOM_REVERSE", .assignRandomReverse),
   (2#3, false, "SIGN_EXTEND_BYTE", .assignSignExtendByte), (2#3, true, "SIGN_EXTEND_WORD", .assignSignExtendWord),
   (3#3, false, "POST_CLEAR", .assignPostClear), (3#3, true, "POST_SET", .assignPostSet)]

/-- The rows of families 4 to 7 (size rule): family, Bit2, Bit1, name, constructor over push, b[0]. -/
def sizeRows : List (BitVec 3 × Bool × Bool × String × (Bool → Bool → Instr)) :=
  [(4#3, false, false, "PRE_INC_BIT", .assignPreIncBit), (4#3, false, true, "PRE_INC_BYTE", .assignPreIncByte),
   (4#3, true, false, "PRE_INC_WORD", .assignPreIncWord), (4#3, true, true, "PRE_INC_LONG", .assignPreIncLong),
   (5#3, false, false, "POST_INC_BIT", .assignPostIncBit), (5#3, false, true, "POST_INC_BYTE", .assignPostIncByte),
   (5#3, true, false, "POST_INC_WORD", .assignPostIncWord), (5#3, true, true, "POST_INC_LONG", .assignPostIncLong),
   (6#3, false, false, "PRE_DEC_BIT", .assignPreDecBit), (6#3, false, true, "PRE_DEC_BYTE", .assignPreDecByte),
   (6#3, true, false, "PRE_DEC_WORD", .assignPreDecWord), (6#3, true, true, "PRE_DEC_LONG", .assignPreDecLong),
   (7#3, false, false, "POST_DEC_BIT", .assignPostDecBit), (7#3, false, true, "POST_DEC_BYTE", .assignPostDecByte),
   (7#3, true, false, "POST_DEC_WORD", .assignPostDecWord), (7#3, true, true, "POST_DEC_LONG", .assignPostDecLong)]

/-- The math rows with swap = 0: entry, name, constructor over push. -/
def mathRows : List (BitVec 6 × String × (Bool → Instr)) :=
  [(0#6, "ROR", .mathRor), (1#6, "ROL", .mathRol), (2#6, "SHR", .mathShr), (3#6, "SHL", .mathShl),
   (4#6, "MIN", .mathMin), (5#6, "MAX", .mathMax), (6#6, "NEG", .mathNeg), (7#6, "BIT_NOT", .mathBitNot),
   (8#6, "AND", .mathAnd), (9#6, "ABS", .mathAbs), (10#6, "OR", .mathOr), (11#6, "XOR", .mathXor),
   (12#6, "ADD", .mathAdd), (13#6, "SUB", .mathSub), (14#6, "SAR", .mathSar), (15#6, "REV", .mathRev),
   (16#6, "LOG_AND", .mathLogAnd), (17#6, "ENCODE", .mathEncode), (18#6, "LOG_OR", .mathLogOr), (19#6, "DECODE", .mathDecode),
   (20#6, "MUL", .mathMul), (21#6, "MUL_HI", .mathMulHi), (22#6, "DIV", .mathDiv), (23#6, "MOD", .mathMod),
   (24#6, "SQRT", .mathSqrt), (25#6, "LT", .mathLt), (26#6, "GT", .mathGt), (27#6, "NE", .mathNe),
   (28#6, "EQ", .mathEq), (29#6, "LE", .mathLe), (30#6, "GE", .mathGe), (31#6, "LOG_NOT", .mathLogNot)]

/-- The math rows with swap = 1: the same operators, under the same names (R248). -/
def mathSwapRows : List (BitVec 6 × String × (Bool → Instr)) :=
  [(32#6, "ROR", .mathRorSwap), (33#6, "ROL", .mathRolSwap), (34#6, "SHR", .mathShrSwap), (35#6, "SHL", .mathShlSwap),
   (36#6, "MIN", .mathMinSwap), (37#6, "MAX", .mathMaxSwap), (38#6, "NEG", .mathNegSwap), (39#6, "BIT_NOT", .mathBitNotSwap),
   (40#6, "AND", .mathAndSwap), (41#6, "ABS", .mathAbsSwap), (42#6, "OR", .mathOrSwap), (43#6, "XOR", .mathXorSwap),
   (44#6, "ADD", .mathAddSwap), (45#6, "SUB", .mathSubSwap), (46#6, "SAR", .mathSarSwap), (47#6, "REV", .mathRevSwap),
   (48#6, "LOG_AND", .mathLogAndSwap), (49#6, "ENCODE", .mathEncodeSwap), (50#6, "LOG_OR", .mathLogOrSwap), (51#6, "DECODE", .mathDecodeSwap),
   (52#6, "MUL", .mathMulSwap), (53#6, "MUL_HI", .mathMulHiSwap), (54#6, "DIV", .mathDivSwap), (55#6, "MOD", .mathModSwap),
   (56#6, "SQRT", .mathSqrtSwap), (57#6, "LT", .mathLtSwap), (58#6, "GT", .mathGtSwap), (59#6, "NE", .mathNeSwap),
   (60#6, "EQ", .mathEqSwap), (61#6, "LE", .mathLeSwap), (62#6, "GE", .mathGeSwap), (63#6, "LOG_NOT", .mathLogNotSwap)]

end Sys2Proof
end

