-- ==== Sys2Proof/Certificates/Slice0/Obligations.lean ====
section
/-! DEFINITION. The statements for the provers, in the order of OBLIGATIONS.json. -/

open Sys2Proof Sys2Proof.Machine

/-! ### Encodings -/

/-- The rows of a few input words, written out bit by bit from the fields of R71, R77, R79 and R80. The row a word belongs
to is that of the default tables: the INSTR numbers and names are PRESUMED (notes/assumptions/14.md, 18.md to 20.md). -/
def Obligations.SpecWordsDecodeToTheirRows : Prop :=
  -- 100001 0010 1111 000000000 000000001
  decodeAsm 0x84BC0001#32 = .asmSub { z := false, c := false, i := false, con := 15#4, dest := 0#9, src := 1#9 } ∧
  -- 010111 0001 1111 000000000 000000000, and 000000111
  decodeAsm 0x5C7C0000#32 = .asmRet { z := false, c := false, i := true, con := 15#4, dest := 0#9 } ∧
  decodeAsm 0x5C7C0007#32 = .asmJmp { z := false, c := false, i := true, con := 15#4, dest := 0#9, src := 7#9 } ∧
  -- 000011 1111 1111 000000000 111111111
  decodeAsm 0x0FFC01FF#32 = .asmLockclr { z := true, c := true, r := true, i := true, con := 15#4, dest := 0#9, srcHi := 63#6 } ∧
  -- 111110 1001 1010 111111111 111110001
  decodeAsm 0xFA6BFFF1#32 =
    .asmWaitcnt { z := true, c := false, r := false, i := true, con := 10#4, dest := 0x1FF#9, src := 0x1F1#9 } ∧
  -- 0 0 100 1 1 0; 1 1 0 00000; 100 1 0001
  decodeBytes .assignment [0x26#8] = .ok (.assignPreIncLong false false, []) ∧
  decodeBytes .assignment [0xC0#8] = .ok (.mathRor true, []) ∧
  decodeBytes .memoryOperation [0x91#8] = .ok (.memopPushA4 true 1#4, []) ∧
  -- 1 0000001, 00000000; 0 1 0 00000
  decodeBytes .signedOffset [0x81#8, 0x00#8] = .ok (.operandSignedOffset2 1#7 0#8, []) ∧
  decodeBytes .packedLiteral [0x40#8] = .ok (.operandPackedLiteral true false 0#5, [])

/-- DECODE AND ENCODE AGREE: every well-formed instruction has an encoding, and the decoder reads it back from that
encoding with nothing left over. -/
def Obligations.DecodingAnEncodingGivesItBack : Prop :=
  ∀ i : Instr, WellFormed i → ∃ enc, encode i = some enc ∧ decode enc = .ok (i, [])

/-- Every 32-bit opcode is the encoding of the one instruction it decodes to, and that instruction is well-formed: no
opcode is illegal and no bit of one is dropped. -/
def Obligations.EveryOpcodeIsTheEncodingOfItsInstruction : Prop :=
  ∀ op : Opcode, WellFormed (decodeAsm op) ∧ encode (decodeAsm op) = some (.opcode op)

/-- What a bytecode entry point reads is well-formed, and its encoding is exactly the bytes read. -/
def Obligations.BytesReadAreTheEncodingOfTheirInstruction : Prop :=
  ∀ (e : ByteEntry) (bs rest : List Byte) (i : Instr), decodeBytes e bs = .ok (i, rest) →
    WellFormed i ∧ ∃ used, encode i = some (.stream e used) ∧ bs = used ++ rest ∧ 1 ≤ used.length ∧ used.length ≤ 4

/-- The decoder rejects exactly the inputs that are too short for their form, and says how many bytes the form needs. -/
def Obligations.OnlyTooShortBytesAreRejected : Prop :=
  ∀ (e : ByteEntry) (bs : List Byte),
    ((∃ r, decodeBytes e bs = .error r) ↔ TooShort e bs) ∧
    ∀ n, decodeBytes e bs = .error (.truncated n) → bs.length < n ∧ n ≤ 4

/-- The five fields of an opcode cover it without overlap: it is their sum at their places, and every choice of fields
is the fields of one opcode only. -/
def Obligations.FieldsCoverTheOpcode : Prop :=
  (∀ op : Opcode, op.toNat = (instrOf op).toNat * 2 ^ 26 + (zcriOf op).toNat * 2 ^ 22 + (conOf op).toNat * 2 ^ 18 +
    (destOf op).toNat * 2 ^ 9 + (srcOf op).toNat) ∧
  ∀ (instr : BitVec 6) (zcri con : BitVec 4) (dest src : RegAddr),
    ∃! op : Opcode, instrOf op = instr ∧ zcriOf op = zcri ∧ conOf op = con ∧ destOf op = dest ∧ srcOf op = src

/-- The model's own reading of a table word (notes/assumptions/10.md and 22.md): 32 bits are an opcode whose least
significant byte is stored first, and 8, 16 and 24 bits are bytes for one chosen entry point. -/
def Obligations.TableWordsAreReadLeastSignificantFirst : Prop :=
  ∀ w : Nat,
    decodeTableWord 32 w = some (decodeAsm (BitVec.ofNat 32 w)) ∧
    decodeTableWord 8 w = some (decodeAssignByte (BitVec.ofNat 8 w)) ∧
    decodeTableWord 16 w = some (.operandWord (BitVec.ofNat 8 w) (BitVec.ofNat 8 (w / 2 ^ 8))) ∧
    decodeTableWord 24 w =
      some (.operandNearLong (BitVec.ofNat 8 w) (BitVec.ofNat 8 (w / 2 ^ 8)) (BitVec.ofNat 8 (w / 2 ^ 16)))

/-- A word placed by `withFetchWord` is the instruction the very next step runs (the model's own interface,
notes/assumptions/2.md), from every state whose sequences share no cursor once it is placed: an opcode changes nothing of
that, and bytes come on a new stream that no other sequence may name. -/
def Obligations.PlacedWordsRunNext : Prop :=
  ∀ (s : State) (w : Nat),
    (s.sharesCursor = false →
      step (s.withFetchWord 32 w) = exec (decodeAsm (BitVec.ofNat 32 w)) (s.withSequences (s.sequences ++ [[]]))) ∧
    ∀ nbits e i, (nbits, e) ∈ [(8, ByteEntry.assignment), (16, ByteEntry.word), (24, ByteEntry.nearLong)] →
      decodeTableWord nbits w = some i →
      (s.withFetchWord nbits w).sharesCursor = false →
      step (s.withFetchWord nbits w) =
        exec i (((s.withFetchWord nbits w).withSequences (s.sequences ++ [[]])).present (some s.cursors.length))

/-! ### The assembly resolver -/

/-- R130: an opcode's call ends with its record, field by field, and changes nothing else: no flag, no stream, no table. -/
def Obligations.OpcodeDeliversItsRecord : Prop :=
  ∀ (op : Opcode) (s : State) (e : AsmEntry) (synonyms : List String),
    s.tables.asm[op.toNat / 2 ^ 26]? = some e → s.tables.cond[op.toNat / 2 ^ 18 % 2 ^ 4]? = some synonyms →
    ∃ (idx : Fin 9) (v : Variant),
      resolve s.tables (BitVec.ofNat 6 (op.toNat / 2 ^ 26)) (BitVec.ofNat 4 (op.toNat / 2 ^ 22))
        (BitVec.ofNat 9 op.toNat) = (idx, v) ∧
      exec (decodeAsm op) s = .next (ended (.success (.instruction
        { opcode := op, instr := BitVec.ofNat 6 (op.toNat / 2 ^ 26),
          z := op.toNat / 2 ^ 25 % 2 == 1, c := op.toNat / 2 ^ 24 % 2 == 1,
          r := op.toNat / 2 ^ 23 % 2 == 1, i := op.toNat / 2 ^ 22 % 2 == 1,
          con := BitVec.ofNat 4 (op.toNat / 2 ^ 18), dest := BitVec.ofNat 9 (op.toNat / 2 ^ 9),
          src := BitVec.ofNat 9 op.toNat, kind := entryKind e, variantIndex := idx, variant := v,
          wzEff := op.toNat / 2 ^ 25 % 2 == 1 && v.honorsZ, wcEff := op.toNat / 2 ^ 24 % 2 == 1 && v.honorsC,
          wrEff := op.toNat / 2 ^ 23 % 2 == 1 && v.honorsR, nrEff := op.toNat / 2 ^ 23 % 2 == 0 && v.honorsR,
          immEff := op.toNat / 2 ^ 22 % 2 == 1, conditions := synonyms })) s)

/-- R110 and R111: a call of `resolve` always ends with a variant of the entry, the index by the entry's kind from ZCRI
and SRC alone. -/
def Obligations.ResolveSelectsByKind : Prop :=
  ∀ (instr : BitVec 6) (zcri : BitVec 4) (src : RegAddr) (s : State) (e : AsmEntry),
    s.tables.asm[instr.toNat]? = some e →
    ∃ (idx : Fin 9) (v : Variant),
      serveCall (.resolve instr zcri src) s = .next (ended (.success (.variant idx v)) s) ∧
      (entryVariants e)[idx.val]? = some v ∧
      idx.val = match entryKind e with
        | .normal => 0
        | .wr => if zcri.toNat / 2 % 2 = 1 then 0 else 1
        | .hub => src.toNat % 8
        | .jump => if zcri.toNat % 4 ≤ 1 then (if src = 0#9 then 1 else 0) else zcri.toNat % 4

/-- R112: a Normal entry gives its one variant, index 0, whatever the Z, C, R and I bits and SRC are. -/
def Obligations.NormalEntriesGiveTheirOneVariant : Prop :=
  ∀ (op : Opcode) (s : State) (v : Variant), s.tables.asm[op.toNat / 2 ^ 26]? = some (.normal v) →
    ∃ d, exec (decodeAsm op) s = .next (ended (.success (.instruction d)) s) ∧
      d.kind = .normal ∧ d.variantIndex = 0 ∧ d.variant = v

/-- R113: a WR entry gives variant 0 when opcode bit 23 is set and variant 1 when it is clear; no other bit takes part. -/
def Obligations.WrEntriesSelectByTheWriteResultBit : Prop :=
  ∀ (op : Opcode) (s : State) (v0 v1 : Variant), s.tables.asm[op.toNat / 2 ^ 26]? = some (.wr v0 v1) →
    ∃ d, exec (decodeAsm op) s = .next (ended (.success (.instruction d)) s) ∧ d.kind = .wr ∧
      (op.getLsbD 23 = true → d.variantIndex = 0 ∧ d.variant = v0) ∧
      (op.getLsbD 23 = false → d.variantIndex = 1 ∧ d.variant = v1)

/-- R114: the Hub entry gives the variant whose index is SRC[2:0], and the eight names are the source's. The names hold
under the constraints that the source puts on any contents of the table. -/
def Obligations.HubEntrySelectsByTheLowSourceBits : Prop :=
  ∀ (op : Opcode) (s : State) (vs : Vector Variant 9), tablesWf s.tables = true →
    s.tables.asm[op.toNat / 2 ^ 26]? = some (.hub vs) →
    ∃ d, exec (decodeAsm op) s = .next (ended (.success (.instruction d)) s) ∧ d.kind = .hub ∧
      d.variantIndex.val = op.toNat % 8 ∧ vs[op.toNat % 8]? = some d.variant ∧
      ["CLKSET", "COGID", "COGINIT", "COGSTOP", "LOCKNEW", "LOCKRET", "LOCKSET", "LOCKCLR"][op.toNat % 8]? =
        some d.variant.name

/-- R116: the Jump entry. With n = opcode bits 23:22 at most 1 it gives RET when SRC is 0 and JMP when it is not; with n
= 2 JMPRET and with n = 3 CALL, whatever SRC is. JMP has a source and no destination, RET has no operand. Names and
attributes hold under the constraints the source puts on any contents of the table. -/
def Obligations.JumpEntrySelectsByFlagsAndSource : Prop :=
  ∀ (op : Opcode) (s : State) (v0 v1 v2 v3 : Variant), tablesWf s.tables = true →
    s.tables.asm[op.toNat / 2 ^ 26]? = some (.jump v0 v1 v2 v3) →
    ∃ d, exec (decodeAsm op) s = .next (ended (.success (.instruction d)) s) ∧ d.kind = .jump ∧
      (op.toNat / 2 ^ 22 % 4 ≤ 1 → op.toNat % 2 ^ 9 ≠ 0 →
        d.variantIndex = 0 ∧ d.variant = v0 ∧ v0.name = "JMP" ∧ v0.hasDest = false ∧ v0.hasSrc = true ∧
        v0.srcLiteral = true) ∧
      (op.toNat / 2 ^ 22 % 4 ≤ 1 → op.toNat % 2 ^ 9 = 0 →
        d.variantIndex = 1 ∧ d.variant = v1 ∧ v1.name = "RET" ∧ v1.hasDest = false ∧ v1.hasSrc = false) ∧
      (op.toNat / 2 ^ 22 % 4 = 2 → d.variantIndex = 2 ∧ d.variant = v2 ∧ v2.name = "JMPRET") ∧
      (op.toNat / 2 ^ 22 % 4 = 3 → d.variantIndex = 3 ∧ d.variant = v3 ∧ v3.name = "CALL")

/-- R117: the five derived predicates of every decode, from opcode bits 25 to 22 and what the resolved variant honors. -/
def Obligations.DerivedPredicatesFollowTheVariant : Prop :=
  ∀ (op : Opcode) (s : State),
    ∃ d, exec (decodeAsm op) s = .next (ended (.success (.instruction d)) s) ∧
      (d.wzEff = true ↔ op.getLsbD 25 = true ∧ d.variant.honorsZ = true) ∧
      (d.wcEff = true ↔ op.getLsbD 24 = true ∧ d.variant.honorsC = true) ∧
      (d.wrEff = true ↔ op.getLsbD 23 = true ∧ d.variant.honorsR = true) ∧
      (d.nrEff = true ↔ op.getLsbD 23 = false ∧ d.variant.honorsR = true) ∧
      (d.immEff = true ↔ op.getLsbD 22 = true) ∧
      ¬ (d.wrEff = true ∧ d.nrEff = true) ∧
      (d.variant.honorsR = false → d.wrEff = false ∧ d.nrEff = false)

/-- R131: every 32-bit value ends with a record whose variant has a name; no stream is read and nothing is raised. The
name is present under the constraint R23 puts on any contents of the table. -/
def Obligations.EveryOpcodeDeliversANamedVariant : Prop :=
  ∀ (op : Opcode) (s : State), tablesWf s.tables = true →
    ∃ d, exec (decodeAsm op) s = .next (ended (.success (.instruction d)) s) ∧ d.variant.name ≠ ""

/-- R132: decoding one opcode twice gives the same record, whatever the state between the two decodes is, as long as the
tables are the same. -/
def Obligations.DecodingAnOpcodeTwiceGivesTheSameRecord : Prop :=
  ∀ (op : Opcode) (s s' : State), s.tables = s'.tables →
    ∃ d t, exec (decodeAsm op) s = .next t ∧ t = ended (.success (.instruction d)) s ∧
      exec (decodeAsm op) t = .next t ∧
      exec (decodeAsm op) s' = .next (ended (.success (.instruction d)) s')

/-- Every variant of every entry is the variant of some opcode with that INSTR, but for Hub variant 8, which is the
variant of none. -/
def Obligations.EveryVariantButHubEightIsReached : Prop :=
  ∀ (s : State) (instr : BitVec 6) (e : AsmEntry) (k : Nat) (v : Variant), s.tables.asm[instr.toNat]? = some e →
    (entryVariants e)[k]? = some v →
    ((∃ op d, instrOf op = instr ∧ exec (decodeAsm op) s = .next (ended (.success (.instruction d)) s) ∧
        d.variantIndex.val = k ∧ d.variant = v) ↔
      ¬ (entryKind e = .hub ∧ k = 8))

/-- No opcode decodes to HUBOP (R86), though every Hub entry holds it as its ninth variant. The last clause is the model's
choice (DESIGN CHOICE, notes/assumptions/24.md, after the spec's treatment I1): the row's meaning, which no call runs,
refuses. -/
def Obligations.HubopIsHeldAndUnreachable : Prop :=
  (∀ op : Opcode, decodeAsm op ≠ .asmHubop) ∧
  (∀ (op : Opcode) (s t : State) (d : DecodedInstruction), exec (decodeAsm op) s = .next t →
    t.outcome = some (.success (.instruction d)) → d.kind = .hub → d.variantIndex.val ≤ 7) ∧
  (∀ (t : Tables) (vs : Vector Variant 9), tablesWf t = true → AsmEntry.hub vs ∈ t.asm.toList →
    vs[8].name = "HUBOP") ∧
  ∀ s : State, exec .asmHubop s = .refused .unreachableVariant

/-- The record says which operands name a special register: DEST when it is a destination operand, SRC when it is a
register operand, and the number is in 0x1F0 to 0x1FF; and then a register lookup at that number delivers an entry. -/
def Obligations.SpecialOperandsCanBeLookedUp : Prop :=
  ∀ (op : Opcode) (s : State),
    ∃ d, exec (decodeAsm op) s = .next (ended (.success (.instruction d)) s) ∧
      (d.destIsSpecial = true ↔ d.variant.hasDest = true ∧ 0x1F0 ≤ op.toNat / 2 ^ 9 % 2 ^ 9) ∧
      (d.srcIsSpecial = true ↔ d.variant.hasSrc = true ∧ ¬ (op.getLsbD 22 = true ∧ d.variant.srcLiteral = true) ∧
        0x1F0 ≤ op.toNat % 2 ^ 9) ∧
      (d.destIsSpecial = true →
        ∃ i r, serveCall (.regLookup .special d.dest) s = .next (ended (.success (.register (.special i r))) s)) ∧
      (d.srcIsSpecial = true →
        ∃ i r, serveCall (.regLookup .special d.src) s = .next (ended (.success (.register (.special i r))) s))

/-- The read and write capabilities of the special registers are metadata: an opcode's outcome is the same whatever the
special-register table holds. -/
def Obligations.CapabilitiesNeverAlterADecode : Prop :=
  ∀ (op : Opcode) (s : State) (special : Vector SpecialReg 16),
    ∃ o, exec (decodeAsm op) s = .next (ended o s) ∧
      exec (decodeAsm op) { s with tables := { s.tables with special := special } } =
        .next (ended o { s with tables := { s.tables with special := special } })

/-! ### Completion: every row of the opcode table -/

/-- Every Normal row completes with its own record under the default tables, for every operand and state, and leaves
everything else as it was. The INSTR numbers and the names are the default map's (PRESUMED, notes/assumptions/14.md)
and the attributes the default ones (DESIGN CHOICE of the spec, 15.md). -/
def Obligations.NormalRowsDeliverTheirRecord : Prop :=
  ∀ row ∈ normalRowsLow ++ normalRowsHigh, ∀ (o : FullOps) (s : State), s.tables = defaultTables →
    exec (row.2.2 o) s = .next (ended (.success (.instruction
      { opcode := asmWord row.1 o.z o.c o.r o.i o.con o.dest o.src, instr := row.1, z := o.z, c := o.c, r := o.r,
        i := o.i, con := o.con, dest := o.dest, src := o.src, kind := .normal, variantIndex := 0,
        variant := { name := row.2.1, hasDest := true, hasSrc := true, honorsZ := true, honorsC := true,
                     honorsR := true, srcLiteral := true },
        wzEff := o.z, wcEff := o.c, wrEff := o.r, nrEff := !o.r, immEff := o.i,
        conditions := condSynonyms defaultTables o.con })) s)

/-- Every WR row completes with its own record under the default tables: the writing row with index 0, the other with
index 1, and neither write-result predicate holds. The INSTR numbers are PRESUMED (notes/assumptions/14.md), the
attributes the default ones (15.md). -/
def Obligations.WrRowsDeliverTheirRecord : Prop :=
  ∀ row ∈ wrRows, ∀ (o : FixedROps) (s : State), s.tables = defaultTables →
    exec (row.2.2.2 o) s = .next (ended (.success (.instruction
      { opcode := asmWord row.1 o.z o.c row.2.1 o.i o.con o.dest o.src, instr := row.1, z := o.z, c := o.c,
        r := row.2.1, i := o.i, con := o.con, dest := o.dest, src := o.src, kind := .wr,
        variantIndex := if row.2.1 then 0 else 1,
        variant := { name := row.2.2.1, hasDest := true, hasSrc := true, honorsZ := true, honorsC := true,
                     honorsR := false, srcLiteral := true },
        wzEff := o.z, wcEff := o.c, wrEff := false, nrEff := false, immEff := o.i,
        conditions := condSynonyms defaultTables o.con })) s)

/-- Every reachable Hub row completes with its own record under the default tables. INSTR 3 is PRESUMED
(notes/assumptions/14.md), the attributes are the default ones (15.md). -/
def Obligations.HubRowsDeliverTheirRecord : Prop :=
  ∀ row ∈ hubRows, ∀ (o : HubOps) (s : State), s.tables = defaultTables →
    exec (row.2.2 o) s = .next (ended (.success (.instruction
      { opcode := asmWord 3#6 o.z o.c o.r o.i o.con o.dest (o.srcHi ++ row.1), instr := 3#6, z := o.z, c := o.c,
        r := o.r, i := o.i, con := o.con, dest := o.dest, src := o.srcHi ++ row.1, kind := .hub,
        variantIndex := Fin.ofNat 9 row.1.toNat,
        variant := { name := row.2.1, hasDest := true, hasSrc := false, honorsZ := true, honorsC := true,
                     honorsR := true, srcLiteral := false },
        wzEff := o.z, wcEff := o.c, wrEff := o.r, nrEff := !o.r, immEff := o.i,
        conditions := condSynonyms defaultTables o.con })) s)

/-- The four Jump rows complete with their own records under the default tables: JMP with every source but 0, RET, JMPRET
and CALL. INSTR 23 is PRESUMED (notes/assumptions/14.md), the attributes are the default ones (15.md). -/
def Obligations.JumpRowsDeliverTheirRecord : Prop :=
  (∀ (o : FixedROps) (s : State), s.tables = defaultTables → o.src ≠ 0#9 →
    exec (.asmJmp o) s = .next (ended (.success (.instruction
      { opcode := asmWord 23#6 o.z o.c false o.i o.con o.dest o.src, instr := 23#6, z := o.z, c := o.c, r := false,
        i := o.i, con := o.con, dest := o.dest, src := o.src, kind := .jump, variantIndex := 0,
        variant := { name := "JMP", hasDest := false, hasSrc := true, honorsZ := true, honorsC := true,
                     honorsR := false, srcLiteral := true },
        wzEff := o.z, wcEff := o.c, wrEff := false, nrEff := false, immEff := o.i,
        conditions := condSynonyms defaultTables o.con })) s)) ∧
  (∀ (o : RetOps) (s : State), s.tables = defaultTables →
    exec (.asmRet o) s = .next (ended (.success (.instruction
      { opcode := asmWord 23#6 o.z o.c false o.i o.con o.dest 0#9, instr := 23#6, z := o.z, c := o.c, r := false,
        i := o.i, con := o.con, dest := o.dest, src := 0#9, kind := .jump, variantIndex := 1,
        variant := { name := "RET", hasDest := false, hasSrc := false, honorsZ := true, honorsC := true,
                     honorsR := false, srcLiteral := false },
        wzEff := o.z, wcEff := o.c, wrEff := false, nrEff := false, immEff := o.i,
        conditions := condSynonyms defaultTables o.con })) s)) ∧
  (∀ (o : LinkOps) (s : State), s.tables = defaultTables →
    exec (.asmJmpret o) s = .next (ended (.success (.instruction
      { opcode := asmWord 23#6 o.z o.c true false o.con o.dest o.src, instr := 23#6, z := o.z, c := o.c, r := true,
        i := false, con := o.con, dest := o.dest, src := o.src, kind := .jump, variantIndex := 2,
        variant := { name := "JMPRET", hasDest := true, hasSrc := true, honorsZ := true, honorsC := true,
                     honorsR := false, srcLiteral := true },
        wzEff := o.z, wcEff := o.c, wrEff := false, nrEff := false, immEff := false,
        conditions := condSynonyms defaultTables o.con })) s)) ∧
  (∀ (o : LinkOps) (s : State), s.tables = defaultTables →
    exec (.asmCall o) s = .next (ended (.success (.instruction
      { opcode := asmWord 23#6 o.z o.c true true o.con o.dest o.src, instr := 23#6, z := o.z, c := o.c, r := true,
        i := true, con := o.con, dest := o.dest, src := o.src, kind := .jump, variantIndex := 3,
        variant := { name := "CALL", hasDest := false, hasSrc := true, honorsZ := true, honorsC := true,
                     honorsR := false, srcLiteral := true },
        wzEff := o.z, wcEff := o.c, wrEff := false, nrEff := false, immEff := true,
        conditions := condSynonyms defaultTables o.con })) s))

/-- Every memory-operation row completes with its own record under the default tables, for either table and every index,
pulling one byte. Classes, base and the 4-bit action code are decisions D6 to D8 (notes/assumptions/20.md). -/
def Obligations.MemopRowsDeliverTheirRecord : Prop :=
  ∀ row ∈ memopRows, ∀ (sel : Bool) (index : BitVec 4) (s : State) (h p : Nat), s.tables = defaultTables →
    StreamAt s h p [memopByte row.1 sel index] →
    exec (row.2.2 sel index) s = .next (endedAt (.success (.memoryOperation
      { byte := memopByte row.1 sel index, addr := BitVec.ofNat 9 (0x1E0 + (if sel then 16 else 0) + index.toNat),
        sel := sel, index := index, action := BitVec.ofNat 4 row.1.toNat, actionClass := row.2.1,
        reg := if sel then specialEntry defaultTables index else slotEntry defaultTables index, consumed := 1 }))
      h (p + 1) s)

/-- Every assignment row completes with its own record under the default tables, pulling one byte: its family's variant
and the operand rule the caller runs next. Families and names are PRESUMED (notes/assumptions/18.md). -/
def Obligations.AssignmentRowsDeliverTheirRecord : Prop :=
  (∀ row ∈ writeRepeatRows, ∀ (push bit2 bit0 : Bool) (s : State) (h p : Nat), s.tables = defaultTables →
    StreamAt s h p [assignByte push 0#3 bit2 row.1 bit0] →
    exec (row.2.2.2 push bit2 bit0) s = .next (endedAt (.success (.assignment
      { byte := assignByte push 0#3 bit2 row.1 bit0, fields := assignFields (assignByte push 0#3 bit2 row.1 bit0),
        isMath := false, op := .family { name := row.2.1, operandRule := row.2.2.1 }, next := row.2.2.1,
        consumed := 1 })) h (p + 1) s)) ∧
  (∀ row ∈ normalFamilyRows, ∀ (push bit1 bit0 : Bool) (s : State) (h p : Nat), s.tables = defaultTables →
    StreamAt s h p [assignByte push row.1 row.2.1 bit1 bit0] →
    exec (row.2.2.2 push bit1 bit0) s = .next (endedAt (.success (.assignment
      { byte := assignByte push row.1 row.2.1 bit1 bit0,
        fields := assignFields (assignByte push row.1 row.2.1 bit1 bit0), isMath := false,
        op := .family { name := row.2.2.1, operandRule := .none }, next := .none, consumed := 1 })) h (p + 1) s)) ∧
  (∀ row ∈ sizeRows, ∀ (push bit0 : Bool) (s : State) (h p : Nat), s.tables = defaultTables →
    StreamAt s h p [assignByte push row.1 row.2.1 row.2.2.1 bit0] →
    exec (row.2.2.2.2 push bit0) s = .next (endedAt (.success (.assignment
      { byte := assignByte push row.1 row.2.1 row.2.2.1 bit0,
        fields := assignFields (assignByte push row.1 row.2.1 row.2.2.1 bit0), isMath := false,
        op := .family { name := row.2.2.2.1, operandRule := .none }, next := .none, consumed := 1 })) h (p + 1) s))

/-- Every math row completes with its own record under the default tables, pulling one byte; the swapped rows have the
same operators under the same names. Names and index are PRESUMED (notes/assumptions/19.md). -/
def Obligations.MathRowsDeliverTheirRecord : Prop :=
  ∀ row ∈ mathRows ++ mathSwapRows, ∀ (push : Bool) (s : State) (h p : Nat), s.tables = defaultTables →
    StreamAt s h p [mathByte push row.1] →
    exec (row.2.2 push) s = .next (endedAt (.success (.assignment
      { byte := mathByte push row.1, fields := assignFields (mathByte push row.1), isMath := true,
        op := .math { name := row.2.1, mathop := BitVec.ofNat 5 row.1.toNat, swap := decide (32 ≤ row.1.toNat),
                      operandRule := .none },
        next := .none, consumed := 1 })) h (p + 1) s)

/-! ### Assignment, math and memory-operation bytes -/

/-- The sub-fields of an assignment byte at their places. R231 says so, and says as well that b[0] is in no field, which
its own `mathop = b[4:0]` contradicts; the model follows the field list (notes/assumptions/25.md). -/
def Obligations.AssignmentFieldsAreTheBytesBits : Prop :=
  ∀ b : Byte, assignFields b =
    { push := b.toNat / 128 == 1, math := b.toNat / 64 % 2 == 1, family := BitVec.ofNat 3 (b.toNat / 8),
      swap := b.toNat / 32 % 2 == 1, mathop := BitVec.ofNat 5 b.toNat, bit2 := b.toNat / 4 % 2 == 1,
      bit1 := b.toNat / 2 % 2 == 1, size := BitVec.ofNat 2 (b.toNat / 2) }

/-- A byte with b[6] = 1 ends with the math entry b[5:0], whatever b[7] is. The 6-bit index is decision D9
(notes/assumptions/19.md). -/
def Obligations.MathBytesSelectTheirEntry : Prop :=
  ∀ (b : Byte) (s : State) (h p : Nat) (e : MathEntry), b.getLsbD 6 = true → StreamAt s h p [b] →
    s.tables.mathOps[b.toNat % 64]? = some e →
    exec (decodeAssignByte b) s = .next (endedAt (.success (.assignment
      { byte := b, fields := assignFields b, isMath := true, op := .math e, next := e.operandRule, consumed := 1 }))
      h (p + 1) s)

/-- R234 and R235: a byte of a write-repeat family ends with the variant that Bit1 selects, a byte of a normal family with
the variant that Bit2 selects. The family is b[5:3]; no other bit takes part. -/
def Obligations.FamiliesSelectByBit1OrBit2 : Prop :=
  ∀ (b : Byte) (s : State) (h p : Nat) (fam : AssignFamily) (v : AssignVariant), b.getLsbD 6 = false →
    StreamAt s h p [b] → s.tables.families[b.toNat / 8 % 8]? = some fam →
    (fam.rule = .writeRepeat ∧ fam.variants[b.toNat / 2 % 2]? = some v ∨
      fam.rule = .normal ∧ fam.variants[b.toNat / 4 % 2]? = some v) →
    exec (decodeAssignByte b) s = .next (endedAt (.success (.assignment
      { byte := b, fields := assignFields b, isMath := false, op := .family v, next := v.operandRule, consumed := 1 }))
      h (p + 1) s)

/-- A byte of a size family ends with the variant that b[2:1] selects; and where a family of any rule lacks the variant
selected, with NoVariant, the byte consumed. NoVariant is the spec's decision D11 (notes/assumptions/18.md). -/
def Obligations.SizeFamiliesSelectBySizeAndGapsGiveNoVariant : Prop :=
  ∀ (b : Byte) (s : State) (h p : Nat) (fam : AssignFamily), b.getLsbD 6 = false → StreamAt s h p [b] →
    s.tables.families[b.toNat / 8 % 8]? = some fam →
    (∀ v, fam.rule = .size → fam.variants[b.toNat / 2 % 4]? = some v →
      exec (decodeAssignByte b) s = .next (endedAt (.success (.assignment
        { byte := b, fields := assignFields b, isMath := false, op := .family v, next := v.operandRule,
          consumed := 1 })) h (p + 1) s)) ∧
    (fam.variants.length ≤ (match fam.rule with
        | .writeRepeat => b.toNat / 2 % 2
        | .normal => b.toNat / 4 % 2
        | .size => b.toNat / 2 % 4) →
      exec (decodeAssignByte b) s = .next (endedAt (.noVariant b) h (p + 1) s))

/-- Whether the push flag b[7] is set changes nothing but what is reported of it: two bytes that differ in it alone give
the same operator and the same operand rule, or both NoVariant. -/
def Obligations.PushIsOnlyReported : Prop :=
  ∀ (b c : Byte) (s s' : State) (h p : Nat), b.toNat % 128 = c.toNat % 128 → s.tables = s'.tables →
    StreamAt s h p [b] → StreamAt s' h p [c] →
    (∃ a a', exec (decodeAssignByte b) s = .next (endedAt (.success (.assignment a)) h (p + 1) s) ∧
      exec (decodeAssignByte c) s' = .next (endedAt (.success (.assignment a')) h (p + 1) s') ∧
      a.isMath = a'.isMath ∧ a.op = a'.op ∧ a.next = a'.next ∧
      { a.fields with push := a'.fields.push } = a'.fields) ∨
    (exec (decodeAssignByte b) s = .next (endedAt (.noVariant b) h (p + 1) s) ∧
      exec (decodeAssignByte c) s' = .next (endedAt (.noVariant c) h (p + 1) s'))

/-- With families that hold every variant their rule can select, as the default ones do, no byte gives NoVariant: every
one of the 256 ends with a record (the default contents are PRESUMED, notes/assumptions/18.md). -/
def Obligations.EveryAssignmentByteDecodes : Prop :=
  familiesFull defaultTables = true ∧
  ∀ (b : Byte) (s : State) (h p : Nat), familiesFull s.tables = true → StreamAt s h p [b] →
    ∃ a, exec (decodeAssignByte b) s = .next (endedAt (.success (.assignment a)) h (p + 1) s) ∧
      a.byte = b ∧ a.isMath = b.getLsbD 6 ∧ a.consumed = 1

/-- Every one of the 256 memory-operation bytes ends with a record, an Unknown class included: address, selector, index,
action code, class and register at their places. Bit 8 of the action code and the base are decisions D6 and D8
(notes/assumptions/20.md). -/
def Obligations.EveryMemoryOperationByteDecodes : Prop :=
  ∀ (b : Byte) (s : State) (h p : Nat) (cls : ActionClass) (x : SpecialReg) (y : SlotReg), StreamAt s h p [b] →
    s.tables.memopClass[b.toNat / 32]? = some cls → s.tables.special[b.toNat % 16]? = some x →
    s.tables.slots[b.toNat % 16]? = some y →
    exec (decodeMemopByte b) s = .next (endedAt (.success (.memoryOperation
      { byte := b, addr := BitVec.ofNat 9 (s.tables.memopRegBase.toNat + b.toNat % 32), sel := b.getLsbD 4,
        index := BitVec.ofNat 4 b.toNat, action := BitVec.ofNat 4 (b.toNat / 32), actionClass := cls,
        reg := if b.toNat / 16 % 2 = 1 then .special (BitVec.ofNat 4 b.toNat) x
               else .slot (BitVec.ofNat 4 b.toNat) y,
        consumed := 1 })) h (p + 1) s)

/-- With the default base (decision D8, notes/assumptions/20.md) the register of a memory-operation record is the one a
register lookup of the selected table finds at the record's address. -/
def Obligations.MemopRegisterIsTheLookupAtItsAddress : Prop :=
  ∀ (b : Byte) (s : State) (h p : Nat), s.tables.memopRegBase = 0x1E0#9 → StreamAt s h p [b] →
    ∃ m, exec (decodeMemopByte b) s = .next (endedAt (.success (.memoryOperation m)) h (p + 1) s) ∧
      serveCall (.regLookup (if m.sel then .special else .slot) m.addr) s =
        .next (ended (.success (.register m.reg)) s)

/-! ### Operand forms -/

/-- The signed offset (R211). A first byte below 0x80 is its low 7 bits, signed; another is the high 7 of 15 bits, signed,
above a second byte; a stream without the byte it needs is exhausted after 0 or 1 bytes. That the byte pulled then stays
consumed is decision D4 (DESIGN CHOICE, notes/assumptions/27.md). -/
def Obligations.SignedOffsetValue : Prop :=
  CallExhausts .signedOffset [] ∧
  ∀ b0 : Byte,
    (b0.toNat < 128 →
      (∀ rest, decodeBytes .signedOffset (b0 :: rest) = .ok (.operandSignedOffset1 (b0.extractLsb' 0 7), rest)) ∧
      DeliversValue (.operandSignedOffset1 (b0.extractLsb' 0 7)) [b0]
        (BitVec.ofInt 32 (if b0.toNat < 64 then b0.toNat else (b0.toNat : Int) - 128)) none) ∧
    (128 ≤ b0.toNat → CallExhausts .signedOffset [b0] ∧ ∀ b1 : Byte,
      (∀ rest, decodeBytes .signedOffset (b0 :: b1 :: rest) =
        .ok (.operandSignedOffset2 (b0.extractLsb' 0 7) b1, rest)) ∧
      DeliversValue (.operandSignedOffset2 (b0.extractLsb' 0 7) b1) [b0, b1]
        (BitVec.ofInt 32 (if b0.toNat < 192 then ((b0.toNat : Int) - 128) * 256 + b1.toNat
          else ((b0.toNat : Int) - 128) * 256 + b1.toNat - 32768)) none)

/-- The signed packed offset (R212). The first byte is rebuilt with a copy of bit 6 in bit 7 and read as a signed byte; or,
when bit 7 was set, as the high byte of a signed 16-bit value. That a byte pulled before the stream is exhausted stays
consumed is decision D4 (DESIGN CHOICE, notes/assumptions/27.md). -/
def Obligations.SignedPackedOffsetValue : Prop :=
  CallExhausts .signedPackedOffset [] ∧
  ∀ b0 : Byte,
    let rebuilt : Int := if b0.toNat / 64 % 2 = 1 then (b0.toNat % 128 : Int) + 128 - 256 else (b0.toNat % 128 : Int)
    (b0.getLsbD 7 = false →
      (∀ rest, decodeBytes .signedPackedOffset (b0 :: rest) =
        .ok (.operandSignedPackedOffset1 (b0.extractLsb' 0 7), rest)) ∧
      DeliversValue (.operandSignedPackedOffset1 (b0.extractLsb' 0 7)) [b0] (BitVec.ofInt 32 rebuilt) none) ∧
    (b0.getLsbD 7 = true → CallExhausts .signedPackedOffset [b0] ∧ ∀ b1 : Byte,
      (∀ rest, decodeBytes .signedPackedOffset (b0 :: b1 :: rest) =
        .ok (.operandSignedPackedOffset2 (b0.extractLsb' 0 7) b1, rest)) ∧
      DeliversValue (.operandSignedPackedOffset2 (b0.extractLsb' 0 7) b1) [b0, b1]
        (BitVec.ofInt 32 (rebuilt * 256 + b1.toNat)) none)

/-- A valid packed literal: 2 shifted left by the exponent, less 1 if bit 5 is set, then complemented if bit 6 is set, all
modulo 2^32. The width, and so the value at exponent 31, is decision D3 (notes/assumptions/26.md). -/
def Obligations.PackedLiteralValue : Prop :=
  CallExhausts .packedLiteral [] ∧
  ∀ (complement decrement : Bool) (exponent : BitVec 5),
    let b0 : Byte := BitVec.ofNat 8 (complement.toNat * 64 + decrement.toNat * 32 + exponent.toNat)
    let shifted : Nat := 2 ^ (exponent.toNat + 1) % 2 ^ 32
    let lessened : Nat := if decrement then (shifted + (2 ^ 32 - 1)) % 2 ^ 32 else shifted
    (∀ rest, decodeBytes .packedLiteral (b0 :: rest) = .ok (.operandPackedLiteral complement decrement exponent, rest)) ∧
    DeliversValue (.operandPackedLiteral complement decrement exponent) [b0]
      (BitVec.ofNat 32 (if complement then 2 ^ 32 - 1 - lessened else lessened)) (some false)

/-- R214: a packed-literal byte of 0x80 or more gives the sentinel with the diagnostic bit set, one byte consumed, and is
a success. -/
def Obligations.MalformedPackedLiteralGivesTheSentinel : Prop :=
  ∀ b0 : Byte, 0x80 ≤ b0.toNat →
    (∀ rest, decodeBytes .packedLiteral (b0 :: rest) =
      .ok (.operandPackedLiteralMalformed (b0.extractLsb' 0 7), rest)) ∧
    DeliversValue (.operandPackedLiteralMalformed (b0.extractLsb' 0 7)) [b0] 0x55555555#32 (some true)

/-- The packed (unsigned) offset (R215). A first byte below 0x80 is the value; another is the high 7 of 15 bits above a
second byte, unsigned. That a byte pulled before the stream is exhausted stays consumed is decision D4 (DESIGN CHOICE,
notes/assumptions/27.md). -/
def Obligations.PackedOffsetValue : Prop :=
  CallExhausts .packedOffset [] ∧
  ∀ b0 : Byte,
    (b0.toNat < 128 →
      (∀ rest, decodeBytes .packedOffset (b0 :: rest) = .ok (.operandPackedOffset1 (b0.extractLsb' 0 7), rest)) ∧
      DeliversValue (.operandPackedOffset1 (b0.extractLsb' 0 7)) [b0] (BitVec.ofNat 32 b0.toNat) none) ∧
    (128 ≤ b0.toNat → CallExhausts .packedOffset [b0] ∧ ∀ b1 : Byte,
      (∀ rest, decodeBytes .packedOffset (b0 :: b1 :: rest) =
        .ok (.operandPackedOffset2 (b0.extractLsb' 0 7) b1, rest)) ∧
      DeliversValue (.operandPackedOffset2 (b0.extractLsb' 0 7) b1) [b0, b1]
        (BitVec.ofNat 32 ((b0.toNat - 128) * 256 + b1.toNat)) none)

/-- The word, near-long and long literals (R216, R217, R218) are 2, 3 and 4 bytes, the first the most significant,
unsigned; a shorter stream is exhausted. That the bytes pulled then stay consumed and are counted is decision D4 (DESIGN
CHOICE, notes/assumptions/27.md). -/
def Obligations.FixedWidthLiteralValues : Prop :=
  (∀ bs : List Byte, (bs.length < 2 → CallExhausts .word bs) ∧ (bs.length < 3 → CallExhausts .nearLong bs) ∧
    (bs.length < 4 → CallExhausts .long bs)) ∧
  ∀ b0 b1 : Byte,
    (∀ rest, decodeBytes .word (b0 :: b1 :: rest) = .ok (.operandWord b0 b1, rest)) ∧
    DeliversValue (.operandWord b0 b1) [b0, b1] (BitVec.ofNat 32 (b0.toNat * 256 + b1.toNat)) none ∧
    ∀ b2 : Byte,
      (∀ rest, decodeBytes .nearLong (b0 :: b1 :: b2 :: rest) = .ok (.operandNearLong b0 b1 b2, rest)) ∧
      DeliversValue (.operandNearLong b0 b1 b2) [b0, b1, b2]
        (BitVec.ofNat 32 ((b0.toNat * 256 + b1.toNat) * 256 + b2.toNat)) none ∧
      ∀ b3 : Byte,
        (∀ rest, decodeBytes .long (b0 :: b1 :: b2 :: b3 :: rest) = .ok (.operandLong b0 b1 b2 b3, rest)) ∧
        DeliversValue (.operandLong b0 b1 b2 b3) [b0, b1, b2, b3]
          (BitVec.ofNat 32 (((b0.toNat * 256 + b1.toNat) * 256 + b2.toNat) * 256 + b3.toNat)) none

/-- A call of the signed offset and a call of the signed packed offset end in the same state, from every state. -/
def Obligations.SignedAndSignedPackedOffsetsAgree : Prop :=
  ∀ (s : State) (handle : Option Nat),
    serveCall (.bytecode .signedOffset handle) s = serveCall (.bytecode .signedPackedOffset handle) s

/-! ### Outcomes and lookups -/

/-- R312 and R220: a bytecode call without a stream handle ends with InvalidArgument, no byte pulled and no cursor moved,
at every entry point and for every instruction one reads; the assembly call never ends so. -/
def Obligations.AbsentHandlesGiveInvalidArgument : Prop :=
  (∀ (e : ByteEntry) (s : State), serveCall (.bytecode e none) s = .next (ended .invalidArgument s)) ∧
  (∀ (i : Instr) (e : ByteEntry) (bs : List Byte) (s : State), encode i = some (.stream e bs) → s.handle = none →
    exec i s = .next (ended .invalidArgument s)) ∧
  ∀ (op : Opcode) (s : State), ∃ o, exec (decodeAsm op) s = .next (ended o s) ∧ o ≠ .invalidArgument

/-- A stream that ends too early for the form ends the call with StreamExhausted: at most 3 bytes were pulled, they stay
consumed and are counted (decision D4, notes/assumptions/27.md); no call ends so otherwise, and the assembly call never. -/
def Obligations.StreamExhaustedExactlyOnShortStreams : Prop :=
  (∀ (e : ByteEntry) (bs : List Byte), TooShort e bs → bs.length ≤ 3 ∧ CallExhausts e bs) ∧
  (∀ (e : ByteEntry) (s t : State) (h p k : Nat), s.cursors[h]? = some p →
    serveCall (.bytecode e (some h)) s = .next t → t.outcome = some (.streamExhausted k) →
    TooShort e (Memory.peek s.image p 4) ∧ k = (Memory.peek s.image p 4).length) ∧
  ∀ (op : Opcode) (s : State) (k : Nat), ∃ o, exec (decodeAsm op) s = .next (ended o s) ∧ o ≠ .streamExhausted k

/-- EVERY well-formed instruction completes, from every state, with exactly one outcome, the block idle after it; and
nothing but the presented cursor moves, by at most 4: the tables, the image, the other cursors and the requests stay. -/
def Obligations.EveryInstructionCompletesAndKeepsItsFrame : Prop :=
  ∀ (i : Instr) (s : State), WellFormed i →
    ∃ o, exec i s = .next (ended o s) ∨
      ∃ h p k, s.handle = some h ∧ s.cursors[h]? = some p ∧ k ≤ 4 ∧ exec i s = .next (endedAt o h (p + k) s)

/-- What a call leaves behind does not reach the next one: a call does the same whatever latch, handle, held bytes and
outcome it finds, and it leaves the block idle with one outcome. -/
def Obligations.CallsStartAfresh : Prop :=
  ∀ (c : Call) (s : State) (latch : Option Opcode) (handle : Option Nat) (held : Option (List Byte))
    (outcome : Option CallOutcome),
    serveCall c { s with latch := latch, handle := handle, held := held, outcome := outcome } = serveCall c s ∧
    ∀ t, serveCall c s = .next t → BlockIdle t ∧ ∃ o, t.outcome = some o

/-- R124: a register lookup inside its table's window delivers the entry at the address less the window's base. -/
def Obligations.RegisterLookupInsideItsWindow : Prop :=
  (∀ (s : State) (addr : RegAddr) (r : SpecialReg), 0x1F0 ≤ addr.toNat → addr.toNat ≤ 0x1F0 + 15 →
    s.tables.special[addr.toNat - 0x1F0]? = some r →
    serveCall (.regLookup .special addr) s =
      .next (ended (.success (.register (.special (BitVec.ofNat 4 (addr.toNat - 0x1F0)) r))) s)) ∧
  ∀ (s : State) (addr : RegAddr) (r : SlotReg), s.tables.memopRegBase.toNat ≤ addr.toNat →
    addr.toNat ≤ s.tables.memopRegBase.toNat + 15 →
    s.tables.slots[addr.toNat - s.tables.memopRegBase.toNat]? = some r →
    serveCall (.regLookup .slot addr) s =
      .next (ended (.success (.register (.slot (BitVec.ofNat 4 (addr.toNat - s.tables.memopRegBase.toNat)) r))) s)

/-- A register lookup outside its table's window is refused, with no result: the spec's decision D29
(notes/assumptions/28.md). -/
def Obligations.RegisterLookupOutsideItsWindowIsRefused : Prop :=
  ∀ (s : State) (addr : RegAddr),
    (serveCall (.regLookup .special addr) s = .refused .lookupOutsideWindow ↔ addr.toNat < 0x1F0) ∧
    (serveCall (.regLookup .slot addr) s = .refused .lookupOutsideWindow ↔
      addr.toNat < s.tables.memopRegBase.toNat ∨ s.tables.memopRegBase.toNat + 15 < addr.toNat)

/-- A condition lookup delivers the whole list of its entry, and under the constraints of R121 it has 1 to 3 synonyms: at
least 2 for the conditions 1 to 14, and exactly one that is not blank for 0 and 15, of the family R121 names (the
spellings NOP and IF_NEVER for 0 and IF_ALWAYS for 15: notes/assumptions/16.md). -/
def Obligations.ConditionLookupDeliversTheWholeList : Prop :=
  ∀ (con : BitVec 4) (s : State) (l : List String), s.tables.cond[con.toNat]? = some l →
    serveCall (.condLookup con) s = .next (ended (.success (.conditions l)) s) ∧
    (tablesWf s.tables = true → 1 ≤ l.length ∧ l.length ≤ 3 ∧
      (con ≠ 0#4 → con ≠ 15#4 → 2 ≤ l.length) ∧
      (con = 0#4 ∨ con = 15#4 → l.length ≤ 2 ∧ (l.filter fun n => n != "").length = 1) ∧
      (con = 0#4 → "NOP" ∈ l ∨ "IF_NEVER" ∈ l) ∧ (con = 15#4 → "IF_ALWAYS" ∈ l))

/-- A byte the image's owner writes before a call is the byte the call reads; no other address changes, the image keeps
its canonical form, and the write touches nothing else (decision D20; the request is the model's, notes/assumptions/13.md). -/
def Obligations.ImageWritesAreSeenByLaterCalls : Prop :=
  ∀ (s : State) (a : Nat) (b : Byte), ∃ image,
    serve (.writeImage a b) s = .next { s with image := image } ∧
    (∀ a', a' ≠ a → Memory.read image a' = Memory.read s.image a') ∧
    (Memory.wf s.image = true → Memory.wf image = true) ∧
    ∀ h, s.cursors[h]? = some a → ∃ m,
      serveCall (.bytecode .memoryOperation (some h)) { s with image := image } =
        .next (endedAt (.success (.memoryOperation m)) h (a + 1) { s with image := image }) ∧ m.byte = b

/-! ### Steps -/

/-- A STEP RUNS THE DECODED INSTRUCTION. Where no cursor is shared and the first request of the first sequence is an
assembly call, or a bytecode call on an open cursor at which an instruction stands, the step is that instruction's meaning,
on the state whose sequences have that request served and the sequence behind the others, with the handle presented. -/
def Obligations.StepRunsTheDecodedInstruction : Prop :=
  (∀ (s : State) (op : Opcode) (later : List Request) (others : List (List Request)),
    s.sequences = (.call (.assembly op) :: later) :: others → s.sharesCursor = false →
    step s = exec (decodeAsm op) (s.withSequences (others ++ [later]))) ∧
  ∀ (s : State) (e : ByteEntry) (h p : Nat) (later : List Request) (others : List (List Request)) (i : Instr)
    (rest : List Byte), s.sequences = (.call (.bytecode e (some h)) :: later) :: others →
    s.sharesCursor = false → s.cursors[h]? = some p →
    decodeBytes e (Memory.peek s.image p 4) = .ok (i, rest) →
    step s = exec i ((s.withSequences (others ++ [later])).present (some h))

/-- A step is refused for a shared cursor exactly when two sequences, any two, have a call on one open stream to make
(decision D19). A step that goes on moves no cursor but one that its own sequence holds and no other does; and what it
does, the tables, the image, the cursors and the outcome after it, is what it does where that sequence runs alone. That a
handle of no open stream is held by nobody is the model's choice (notes/assumptions/6.md, 12.md). -/
def Obligations.SharedCursorsAreRefused : Prop :=
  (∀ s : State, step s = .refused .sharedCursor ↔
    ∃ (i j : Nat) (a b : List Request) (h : Nat), i < j ∧ s.sequences[i]? = some a ∧ s.sequences[j]? = some b ∧ h < s.cursors.length ∧
      NamesStream a h ∧ NamesStream b h) ∧
  (∀ (s t : State) (a : List Request) (others : List (List Request)), s.sequences = a :: others → step s = .next t →
    ∀ h, h < s.cursors.length → t.cursors[h]? ≠ s.cursors[h]? →
      NamesStream a h ∧ ∀ b ∈ others, ¬ NamesStream b h) ∧
  ∀ (s t : State) (q : Request) (later : List Request) (others : List (List Request)),
    s.sequences = (q :: later) :: others → step s = .next t →
    step (s.withSequences [q :: later]) = .next (t.withSequences [later])

/-- A step gives a next state exactly when the callers keep the contract: no two sequences share a cursor, and the request
to serve is no register lookup outside its window. The two refusals are the spec's decisions D19 and D29 (notes/assumptions/12.md, 28.md). -/
def Obligations.StepsCompleteExactlyUnderTheContract : Prop :=
  ∀ s : State, Completes s ↔ CallerContract s

/-- The machine right after reset meets the invariant. -/
def Obligations.ResetMeetsTheInvariant : Prop := Inv State.reset

/-- EVERY STEP KEEPS THE INVARIANT, from every state that meets it: the block is idle between calls, the image keeps its
canonical form, the tables keep the constraints of the spec. -/
def Obligations.EveryStepKeepsTheInvariant : Prop := ∀ s t : State, Inv s → step s = .next t → Inv t

/-- R22: no request writes a table, and the block's reset leaves them as they are. -/
def Obligations.NoStepWritesATable : Prop :=
  (∀ s t : State, step s = .next t → t.tables = s.tables) ∧
  ∀ (q : Request) (s t : State), serve q s = .next t → t.tables = s.tables

/-- Sequences with cursors of their own do not affect each other: two calls on different streams give the same outcomes,
cursors and image in either order, and neither order stops where the other goes on. -/
def Obligations.CallsOnDifferentCursorsCommute : Prop :=
  ∀ (c c' : Call) (s t t' : State),
    (∀ h, requestHandle (.call c) = some h → requestHandle (.call c') ≠ some h) →
    serveCall c s = .next t → serveCall c' s = .next t' →
    ∃ u u', serveCall c' t = .next u ∧ serveCall c t' = .next u' ∧
      u.outcome = t'.outcome ∧ u'.outcome = t.outcome ∧ u = { u' with outcome := u.outcome }

/-- The block's reset clears what the block holds and leaves the tables, the image, the cursors and the requests
(decision D21, notes/assumptions/29.md); and the state after reset has the default tables, no transient state, and, by the
model's choice, an empty image, no stream and no request (notes/assumptions/2.md, 3.md, 4.md). -/
def Obligations.ResetClearsOnlyTheBlock : Prop :=
  (∀ s : State, ∃ t, serve .resetBlock s = .next t ∧ BlockIdle t ∧ t.outcome = none ∧ t.tables = s.tables ∧
    t.image = s.image ∧ t.cursors = s.cursors ∧ t.sequences = s.sequences) ∧
  BlockIdle State.reset ∧ State.reset.outcome = none ∧ State.reset.tables = defaultTables ∧
  State.reset.image = [] ∧ State.reset.cursors = [] ∧ State.reset.sequences = []

/-- The rest of the step is the model's own (notes/assumptions/1.md, 12.md, 13.md): where no cursor is shared, with no
sequence it changes nothing, a sequence with no request left goes, another request is served in turn; and a new stream
stands where its opener says. -/
def Obligations.OtherRequestsAreServedInTurn : Prop :=
  (∀ s : State, s.sequences = [] → step s = .next s) ∧
  (∀ (s : State) (others : List (List Request)), s.sequences = [] :: others → s.sharesCursor = false →
    step s = .next (s.withSequences others)) ∧
  (∀ (s : State) (q : Request) (later : List Request) (others : List (List Request)),
    s.sequences = (q :: later) :: others → requestHandle q = none → s.sharesCursor = false →
    step s = serve q (s.withSequences (others ++ [later]))) ∧
  ∀ (s : State) (start : Nat), ∃ t, serve (.openStream start) s = .next t ∧
    t = { s with cursors := s.cursors ++ [start] } ∧ t.cursors[s.cursors.length]? = some start
end

