-- ==== Sys2Proof/Laws/Memory.lean ====
section
/-! SUPPORT. The laws of the memory image: reading after a write, and the canonical form. -/

namespace Sys2Proof.Machine

@[simp] theorem Memory.read_nil (a : Nat) : Memory.read [] a = none := rfl

/-- Reading the address just written gives the byte written. -/
theorem Memory.read_write_same (m : Memory) (a : Nat) (b : Byte) : Memory.read (Memory.write m a b) a = some b := by
  induction m with
  | nil => simp [Memory.write, Memory.read]
  | cons e m ih =>
    obtain ⟨a', b'⟩ := e
    by_cases h : a < a'
    · simp [Memory.write, Memory.read, h]
    · by_cases h' : a = a'
      · simp [Memory.write, Memory.read, h']
      · simp [Memory.write, Memory.read, h, h', ih]

/-- Every other address reads as before. -/
theorem Memory.read_write_other (m : Memory) (a a' : Nat) (b : Byte) (h : a' ≠ a) :
    Memory.read (Memory.write m a b) a' = Memory.read m a' := by
  induction m with
  | nil => simp [Memory.write, Memory.read, h]
  | cons e m ih =>
    obtain ⟨c, d⟩ := e
    by_cases h1 : a < c
    · simp [Memory.write, Memory.read, h1, h]
    · by_cases h2 : a = c
      · subst h2; simp [Memory.write, Memory.read, h]
      · simp [Memory.write, Memory.read, h1, h2, ih]

theorem Memory.wf_cons_iff (a : Nat) (b : Byte) (m : Memory) :
    Memory.wf ((a, b) :: m) = true ↔ (∀ e ∈ m.head?, a < e.1) ∧ Memory.wf m = true := by
  cases m with
  | nil => simp [Memory.wf]
  | cons e m => obtain ⟨a', b'⟩ := e; simp [Memory.wf]

theorem Memory.write_head (m : Memory) (a : Nat) (b : Byte) (c : Nat) (hc : c < a) (h : ∀ e ∈ m.head?, c < e.1) :
    ∀ e ∈ (Memory.write m a b).head?, c < e.1 := by
  cases m with
  | nil => simpa [Memory.write] using hc
  | cons e m =>
    obtain ⟨a', b'⟩ := e
    simp only [List.head?_cons, Option.mem_def, Option.some.injEq, forall_eq'] at h
    unfold Memory.write
    split
    · simpa using hc
    · split <;> simp_all

/-- A write keeps the canonical form. -/
theorem Memory.write_wf (m : Memory) (a : Nat) (b : Byte) (h : Memory.wf m = true) :
    Memory.wf (Memory.write m a b) = true := by
  induction m with
  | nil => rfl
  | cons e m ih =>
    obtain ⟨a', b'⟩ := e
    have hm := (Memory.wf_cons_iff a' b' m).1 h
    by_cases h1 : a < a'
    · simp only [Memory.write, h1, if_true]
      exact (Memory.wf_cons_iff _ _ _).2 ⟨by simpa using h1, h⟩
    · by_cases h2 : a = a'
      · subst h2
        simp only [Memory.write, Nat.lt_irrefl, if_false, if_true]
        exact (Memory.wf_cons_iff _ _ _).2 hm
      · simp only [Memory.write, h1, h2, if_false]
        exact (Memory.wf_cons_iff _ _ _).2 ⟨Memory.write_head m a b a' (by omega) hm.1, ih hm.2⟩

/-- Writing several bytes keeps the canonical form. -/
theorem Memory.writeList_wf (bs : List Byte) (m : Memory) (a : Nat) (h : Memory.wf m = true) :
    Memory.wf (Memory.writeList m a bs) = true := by
  induction bs generalizing m a with
  | nil => exact h
  | cons b bs ih => exact ih _ _ (Memory.write_wf m a b h)

/-- Writing several bytes leaves every address below them as it was. -/
theorem Memory.read_writeList_below (bs : List Byte) (m : Memory) (a c : Nat) (h : c < a) :
    Memory.read (Memory.writeList m a bs) c = Memory.read m c := by
  induction bs generalizing m a with
  | nil => rfl
  | cons b bs ih =>
    simp only [Memory.writeList]
    rw [ih _ _ (by omega), Memory.read_write_other _ _ _ _ (by omega)]

/-- Writing several bytes leaves every address above them as it was. -/
theorem Memory.read_writeList_above (bs : List Byte) (m : Memory) (a c : Nat) (h : a + bs.length ≤ c) :
    Memory.read (Memory.writeList m a bs) c = Memory.read m c := by
  induction bs generalizing m a with
  | nil => rfl
  | cons b bs ih =>
    simp only [List.length_cons] at h
    simp only [Memory.writeList]
    rw [ih _ _ (by omega), Memory.read_write_other _ _ _ _ (by omega)]

/-- Each byte written stands at its address. -/
theorem Memory.read_writeList (bs : List Byte) (m : Memory) (a k : Nat) (b : Byte) (h : bs[k]? = some b) :
    Memory.read (Memory.writeList m a bs) (a + k) = some b := by
  induction bs generalizing m a k with
  | nil => simp at h
  | cons b' bs ih =>
    simp only [Memory.writeList]
    cases k with
    | zero =>
      rw [Memory.read_writeList_below _ _ _ _ (by omega), Nat.add_zero, Memory.read_write_same]
      simpa using h
    | succ k =>
      rw [show a + (k + 1) = a + 1 + k by omega]
      exact ih _ _ _ (by simpa using h)

/-- The bytes written stand at the addresses written, from the first up. -/
theorem Memory.peek_writeList (bs : List Byte) (m : Memory) (a : Nat) :
    Memory.peek (Memory.writeList m a bs) a bs.length = bs := by
  induction bs generalizing m a with
  | nil => rfl
  | cons b bs ih =>
    have h : Memory.read (Memory.writeList (Memory.write m a b) (a + 1) bs) a = some b := by
      rw [Memory.read_writeList_below _ _ _ _ (by omega), Memory.read_write_same]
    simp only [Memory.writeList, List.length_cons, Memory.peek, h, ih]

/-- Peeking reads the byte at the address first. -/
theorem Memory.peek_succ_some (m : Memory) (a n : Nat) (b : Byte) (h : Memory.read m a = some b) :
    Memory.peek m a (n + 1) = b :: Memory.peek m (a + 1) n := by simp [Memory.peek, h]

theorem Memory.peek_succ_none (m : Memory) (a n : Nat) (h : Memory.read m a = none) :
    Memory.peek m a (n + 1) = [] := by simp [Memory.peek, h]

theorem Memory.peek_length_le (m : Memory) (a n : Nat) : (Memory.peek m a n).length ≤ n := by
  induction n generalizing a with
  | zero => simp [Memory.peek]
  | succ n ih =>
    cases h : Memory.read m a with
    | none => simp [Memory.peek, h]
    | some b => simpa [Memory.peek, h] using ih (a + 1)

end Sys2Proof.Machine
end

