-- ==== Sys2Proof/Laws/State.lean ====
section
/-! SUPPORT. What each update of the state does to each field. -/

namespace Sys2Proof.Machine

variable (s : State)

@[simp] theorem State.present_tables (h : Option Nat) : (s.present h).tables = s.tables := rfl
@[simp] theorem State.present_latch (h : Option Nat) : (s.present h).latch = s.latch := rfl
@[simp] theorem State.present_handle (h : Option Nat) : (s.present h).handle = h := rfl
@[simp] theorem State.present_held (h : Option Nat) : (s.present h).held = s.held := rfl
@[simp] theorem State.present_outcome (h : Option Nat) : (s.present h).outcome = s.outcome := rfl
@[simp] theorem State.present_image (h : Option Nat) : (s.present h).image = s.image := rfl
@[simp] theorem State.present_cursors (h : Option Nat) : (s.present h).cursors = s.cursors := rfl
@[simp] theorem State.present_sequences (h : Option Nat) : (s.present h).sequences = s.sequences := rfl

@[simp] theorem State.latchOpcode_tables (op : Opcode) : (s.latchOpcode op).tables = s.tables := rfl
@[simp] theorem State.latchOpcode_latch (op : Opcode) : (s.latchOpcode op).latch = some op := rfl
@[simp] theorem State.latchOpcode_handle (op : Opcode) : (s.latchOpcode op).handle = s.handle := rfl
@[simp] theorem State.latchOpcode_held (op : Opcode) : (s.latchOpcode op).held = s.held := rfl
@[simp] theorem State.latchOpcode_outcome (op : Opcode) : (s.latchOpcode op).outcome = none := rfl
@[simp] theorem State.latchOpcode_image (op : Opcode) : (s.latchOpcode op).image = s.image := rfl
@[simp] theorem State.latchOpcode_cursors (op : Opcode) : (s.latchOpcode op).cursors = s.cursors := rfl
@[simp] theorem State.latchOpcode_sequences (op : Opcode) : (s.latchOpcode op).sequences = s.sequences := rfl

@[simp] theorem State.beginOperation_tables : (s.beginOperation).tables = s.tables := rfl
@[simp] theorem State.beginOperation_latch : (s.beginOperation).latch = s.latch := rfl
@[simp] theorem State.beginOperation_handle : (s.beginOperation).handle = s.handle := rfl
@[simp] theorem State.beginOperation_held : (s.beginOperation).held = some [] := rfl
@[simp] theorem State.beginOperation_outcome : (s.beginOperation).outcome = none := rfl
@[simp] theorem State.beginOperation_image : (s.beginOperation).image = s.image := rfl
@[simp] theorem State.beginOperation_cursors : (s.beginOperation).cursors = s.cursors := rfl
@[simp] theorem State.beginOperation_sequences : (s.beginOperation).sequences = s.sequences := rfl

@[simp] theorem State.takeByte_tables (h p : Nat) (b : Byte) : (s.takeByte h p b).tables = s.tables := rfl
@[simp] theorem State.takeByte_latch (h p : Nat) (b : Byte) : (s.takeByte h p b).latch = s.latch := rfl
@[simp] theorem State.takeByte_handle (h p : Nat) (b : Byte) : (s.takeByte h p b).handle = s.handle := rfl
@[simp] theorem State.takeByte_held (h p : Nat) (b : Byte) : (s.takeByte h p b).held = some (s.held.getD [] ++ [b]) := rfl
@[simp] theorem State.takeByte_outcome (h p : Nat) (b : Byte) : (s.takeByte h p b).outcome = s.outcome := rfl
@[simp] theorem State.takeByte_image (h p : Nat) (b : Byte) : (s.takeByte h p b).image = s.image := rfl
@[simp] theorem State.takeByte_cursors (h p : Nat) (b : Byte) : (s.takeByte h p b).cursors = s.cursors.set h (p + 1) := rfl
@[simp] theorem State.takeByte_sequences (h p : Nat) (b : Byte) : (s.takeByte h p b).sequences = s.sequences := rfl

@[simp] theorem State.deliver_tables (o : CallOutcome) : (s.deliver o).tables = s.tables := rfl
@[simp] theorem State.deliver_latch (o : CallOutcome) : (s.deliver o).latch = none := rfl
@[simp] theorem State.deliver_handle (o : CallOutcome) : (s.deliver o).handle = none := rfl
@[simp] theorem State.deliver_held (o : CallOutcome) : (s.deliver o).held = none := rfl
@[simp] theorem State.deliver_outcome (o : CallOutcome) : (s.deliver o).outcome = some o := rfl
@[simp] theorem State.deliver_image (o : CallOutcome) : (s.deliver o).image = s.image := rfl
@[simp] theorem State.deliver_cursors (o : CallOutcome) : (s.deliver o).cursors = s.cursors := rfl
@[simp] theorem State.deliver_sequences (o : CallOutcome) : (s.deliver o).sequences = s.sequences := rfl

@[simp] theorem State.blockReset_tables : (s.blockReset).tables = s.tables := rfl
@[simp] theorem State.blockReset_latch : (s.blockReset).latch = none := rfl
@[simp] theorem State.blockReset_handle : (s.blockReset).handle = none := rfl
@[simp] theorem State.blockReset_held : (s.blockReset).held = none := rfl
@[simp] theorem State.blockReset_outcome : (s.blockReset).outcome = none := rfl
@[simp] theorem State.blockReset_image : (s.blockReset).image = s.image := rfl
@[simp] theorem State.blockReset_cursors : (s.blockReset).cursors = s.cursors := rfl
@[simp] theorem State.blockReset_sequences : (s.blockReset).sequences = s.sequences := rfl

@[simp] theorem State.writeImage_tables (a : Nat) (b : Byte) : (s.writeImage a b).tables = s.tables := rfl
@[simp] theorem State.writeImage_latch (a : Nat) (b : Byte) : (s.writeImage a b).latch = s.latch := rfl
@[simp] theorem State.writeImage_handle (a : Nat) (b : Byte) : (s.writeImage a b).handle = s.handle := rfl
@[simp] theorem State.writeImage_held (a : Nat) (b : Byte) : (s.writeImage a b).held = s.held := rfl
@[simp] theorem State.writeImage_outcome (a : Nat) (b : Byte) : (s.writeImage a b).outcome = s.outcome := rfl
@[simp] theorem State.writeImage_image (a : Nat) (b : Byte) : (s.writeImage a b).image = Memory.write s.image a b := rfl
@[simp] theorem State.writeImage_cursors (a : Nat) (b : Byte) : (s.writeImage a b).cursors = s.cursors := rfl
@[simp] theorem State.writeImage_sequences (a : Nat) (b : Byte) : (s.writeImage a b).sequences = s.sequences := rfl

@[simp] theorem State.openStream_tables (start : Nat) : (s.openStream start).tables = s.tables := rfl
@[simp] theorem State.openStream_latch (start : Nat) : (s.openStream start).latch = s.latch := rfl
@[simp] theorem State.openStream_handle (start : Nat) : (s.openStream start).handle = s.handle := rfl
@[simp] theorem State.openStream_held (start : Nat) : (s.openStream start).held = s.held := rfl
@[simp] theorem State.openStream_outcome (start : Nat) : (s.openStream start).outcome = s.outcome := rfl
@[simp] theorem State.openStream_image (start : Nat) : (s.openStream start).image = s.image := rfl
@[simp] theorem State.openStream_cursors (start : Nat) : (s.openStream start).cursors = s.cursors ++ [start] := rfl
@[simp] theorem State.openStream_sequences (start : Nat) : (s.openStream start).sequences = s.sequences := rfl

@[simp] theorem State.withSequences_tables (q : List (List Request)) : (s.withSequences q).tables = s.tables := rfl
@[simp] theorem State.withSequences_latch (q : List (List Request)) : (s.withSequences q).latch = s.latch := rfl
@[simp] theorem State.withSequences_handle (q : List (List Request)) : (s.withSequences q).handle = s.handle := rfl
@[simp] theorem State.withSequences_held (q : List (List Request)) : (s.withSequences q).held = s.held := rfl
@[simp] theorem State.withSequences_outcome (q : List (List Request)) : (s.withSequences q).outcome = s.outcome := rfl
@[simp] theorem State.withSequences_image (q : List (List Request)) : (s.withSequences q).image = s.image := rfl
@[simp] theorem State.withSequences_cursors (q : List (List Request)) : (s.withSequences q).cursors = s.cursors := rfl
@[simp] theorem State.withSequences_sequences (q : List (List Request)) : (s.withSequences q).sequences = q := rfl

end Sys2Proof.Machine
end

