-- ==== Sys2Proof/Laws/Ops.lean ====
section
/-! SUPPORT. What the shared operations over the stream can do, once each. -/

namespace Sys2Proof.Machine

/-- ReadByte succeeds exactly where the presented cursor stands on a byte (R50). -/
theorem readByte_of_read (s : State) (h p : Nat) (b : Byte) (hh : s.handle = some h) (hc : s.cursors[h]? = some p)
    (hb : Memory.read s.image p = some b) : readByte s = .ok (b, s.takeByte h p b) := by
  simp [readByte, hh, hc, hb]

/-- ReadByte raises StreamExhausted at the end of the data and changes nothing (R50). -/
theorem readByte_of_end (s : State) (h p : Nat) (hh : s.handle = some h) (hc : s.cursors[h]? = some p)
    (hb : Memory.read s.image p = none) : readByte s = .error s := by
  simp [readByte, hh, hc, hb]

/-- What `n` reads do at a present cursor: they pull the bytes that stand there, up to `n`; with `n` of them they
succeed, with fewer they end exhausted. In both cases the cursor advances by the bytes pulled, those bytes are held
after the ones held before, and nothing else changes. -/
theorem readBytes_spec (n : Nat) (s : State) (h p : Nat) (bs : List Byte) (hh : s.handle = some h)
    (hc : s.cursors[h]? = some p) (hbs : s.held = some bs) :
    let got := Memory.peek s.image p n
    let t := { s with cursors := s.cursors.set h (p + got.length), held := some (bs ++ got) }
    readBytes n s = if got.length = n then .ok t else .error t := by
  induction n generalizing s p bs with
  | zero =>
    have : s.cursors.set h p = s.cursors := by
      rw [List.getElem?_eq_some_iff] at hc
      obtain ⟨hl, rfl⟩ := hc
      simp
    simp [readBytes, Memory.peek, this, ← hbs]
  | succ n ih =>
    cases hb : Memory.read s.image p with
    | none =>
      have : s.cursors.set h p = s.cursors := by
        rw [List.getElem?_eq_some_iff] at hc
        obtain ⟨hl, rfl⟩ := hc
        simp
      simp [readBytes, readByte_of_end s h p hh hc hb, Memory.peek_succ_none _ _ _ hb, this, ← hbs]
    | some b =>
      have hlen : h < s.cursors.length := (List.getElem?_eq_some_iff.1 hc).1
      have := ih (s.takeByte h p b) (p + 1) (bs ++ [b]) hh (by simp [hlen]) (by simp [hbs])
      simp only [readBytes, readByte_of_read s h p b hh hc hb, Memory.peek_succ_some _ _ _ _ hb, List.length_cons]
      rw [this]
      simp [State.takeByte, Nat.add_assoc, Nat.add_comm 1]

/-- An absent handle ends a bytecode call with InvalidArgument and nothing read (R51, R312). -/
theorem streamCall_absent (n : Nat) (finish : Nat → CallOutcome) (s : State) (h : s.cursor? = none) :
    streamCall n finish s = .next (s.deliver .invalidArgument) := by
  simp [streamCall, h]

/-- The cursor a present handle names. -/
theorem State.cursor?_eq_some (s : State) (h p : Nat) (hh : s.handle = some h) (hc : s.cursors[h]? = some p) :
    s.cursor? = some p := by
  simp [State.cursor?, hh, hc]

/-- Everything a bytecode call does at a present cursor: it pulls the bytes that stand there, up to `n`, and delivers
its result for `n` bytes or StreamExhausted with their number. Only that cursor moves. -/
theorem streamCall_present (n : Nat) (finish : Nat → CallOutcome) (s : State) (h p : Nat) (hh : s.handle = some h)
    (hc : s.cursors[h]? = some p) :
    let k := (Memory.peek s.image p n).length
    streamCall n finish s =
      .next (({ s with cursors := s.cursors.set h (p + k) }).deliver
        (if k = n then finish k else .streamExhausted k)) := by
  have hr := readBytes_spec n s.beginOperation h p [] hh hc rfl
  intro k
  by_cases hk : k = n
  · simp only [streamCall, State.cursor?_eq_some s h p hh hc, hr.trans (if_pos hk), if_pos hk]
    rfl
  · simp only [streamCall, State.cursor?_eq_some s h p hh hc, hr.trans (if_neg hk), if_neg hk]
    rfl

/-- Everything a bytecode call can do. -/
theorem streamCall_cases (n : Nat) (finish : Nat → CallOutcome) (s : State) :
    (s.cursor? = none ∧ streamCall n finish s = .next (s.deliver .invalidArgument)) ∨
    ∃ h p k, s.handle = some h ∧ s.cursors[h]? = some p ∧ k ≤ n ∧ k = (Memory.peek s.image p n).length ∧
      streamCall n finish s =
        .next (({ s with cursors := s.cursors.set h (p + k) }).deliver
          (if k = n then finish k else .streamExhausted k)) := by
  cases hh : s.handle with
  | none => exact .inl ⟨by simp [State.cursor?, hh], streamCall_absent n finish s (by simp [State.cursor?, hh])⟩
  | some h =>
    cases hc : s.cursors[h]? with
    | none =>
      exact .inl ⟨by simp [State.cursor?, hh, hc], streamCall_absent n finish s (by simp [State.cursor?, hh, hc])⟩
    | some p =>
      exact .inr ⟨h, p, _, rfl, hc, Memory.peek_length_le _ _ _, rfl, streamCall_present n finish s h p hh hc⟩

end Sys2Proof.Machine
end

