-- ==== Sys2Proof/Laws/Fields.lean ====
section
/-! SUPPORT. The fields of an encoding are the fields it was made of, and an input is made of its fields. -/

namespace Sys2Proof

/-- A bit of an assembly word, by its field (R71). -/
theorem asmWord_getLsbD (n : BitVec 6) (z c r i : Bool) (con : BitVec 4) (d s : RegAddr) (k : Nat) :
    (asmWord n z c r i con d s).getLsbD k =
      if k < 9 then s.getLsbD k else if k < 18 then d.getLsbD (k - 9) else if k < 22 then con.getLsbD (k - 18)
      else if k < 23 then i else if k < 24 then r else if k < 25 then c else if k < 26 then z
      else n.getLsbD (k - 26) := by
  change BitVec.getLsbD (w := 6 + 1 + 1 + 1 + 1 + 4 + 9 + 9) _ k = _
  simp only [asmWord, BitVec.getLsbD_append, BitVec.getLsbD_ofBool, Nat.sub_sub]
  split_ifs <;> first | rfl | omega | (simp; intro; omega)

/-- A bit of a field of an assembly word. -/
theorem field_asmWord_bit (n : BitVec 6) (z c r i : Bool) (con : BitVec 4) (d s : RegAddr) (lo w k : Nat) :
    (field (asmWord n z c r i con d s) lo w).getLsbD k =
      (decide (k < w) && (asmWord n z c r i con d s).getLsbD (lo + k)) := by
  simp [field, BitVec.getLsbD_extractLsb']

@[simp] theorem instrOf_asmWord (n : BitVec 6) (z c r i : Bool) (con : BitVec 4) (d s : RegAddr) :
    instrOf (asmWord n z c r i con d s) = n := by
  refine BitVec.eq_of_getLsbD_eq fun k hk => ?_
  simp only [instrOf, field_asmWord_bit, asmWord_getLsbD, hk, decide_true, Bool.true_and]
  split_ifs <;> first | omega | (congr 1; omega)

@[simp] theorem conOf_asmWord (n : BitVec 6) (z c r i : Bool) (con : BitVec 4) (d s : RegAddr) :
    conOf (asmWord n z c r i con d s) = con := by
  refine BitVec.eq_of_getLsbD_eq fun k hk => ?_
  simp only [conOf, field_asmWord_bit, asmWord_getLsbD, hk, decide_true, Bool.true_and]
  split_ifs <;> first | omega | (congr 1; omega)

@[simp] theorem destOf_asmWord (n : BitVec 6) (z c r i : Bool) (con : BitVec 4) (d s : RegAddr) :
    destOf (asmWord n z c r i con d s) = d := by
  refine BitVec.eq_of_getLsbD_eq fun k hk => ?_
  simp only [destOf, field_asmWord_bit, asmWord_getLsbD, hk, decide_true, Bool.true_and]
  split_ifs <;> first | omega | (congr 1; omega)

@[simp] theorem srcOf_asmWord (n : BitVec 6) (z c r i : Bool) (con : BitVec 4) (d s : RegAddr) :
    srcOf (asmWord n z c r i con d s) = s := by
  refine BitVec.eq_of_getLsbD_eq fun k hk => ?_
  simp only [srcOf, field_asmWord_bit, asmWord_getLsbD, hk, decide_true, Bool.true_and]
  split_ifs <;> first | omega | (congr 1; omega)

/-- A ZCRI bit of an assembly word (R71). -/
theorem zcriOf_asmWord_bit (n : BitVec 6) (z c r i : Bool) (con : BitVec 4) (d s : RegAddr) (k : Nat) (hk : k < 4) :
    (zcriOf (asmWord n z c r i con d s)).getLsbD k = if k = 0 then i else if k = 1 then r else if k = 2 then c else z := by
  simp only [zcriOf, field_asmWord_bit, asmWord_getLsbD, hk, decide_true, Bool.true_and]
  split_ifs <;> first | omega | rfl

@[simp] theorem zOf_asmWord (n : BitVec 6) (z c r i : Bool) (con : BitVec 4) (d s : RegAddr) :
    zOf (asmWord n z c r i con d s) = z := by
  rw [zOf, zcriOf_asmWord_bit _ _ _ _ _ _ _ _ _ (by decide)]
  rfl

@[simp] theorem cOf_asmWord (n : BitVec 6) (z c r i : Bool) (con : BitVec 4) (d s : RegAddr) :
    cOf (asmWord n z c r i con d s) = c := by
  rw [cOf, zcriOf_asmWord_bit _ _ _ _ _ _ _ _ _ (by decide)]
  rfl

@[simp] theorem rOf_asmWord (n : BitVec 6) (z c r i : Bool) (con : BitVec 4) (d s : RegAddr) :
    rOf (asmWord n z c r i con d s) = r := by
  rw [rOf, zcriOf_asmWord_bit _ _ _ _ _ _ _ _ _ (by decide)]
  rfl

@[simp] theorem iOf_asmWord (n : BitVec 6) (z c r i : Bool) (con : BitVec 4) (d s : RegAddr) :
    iOf (asmWord n z c r i con d s) = i := by
  rw [iOf, zcriOf_asmWord_bit _ _ _ _ _ _ _ _ _ (by decide)]
  rfl

/-- The ZCRI field is its four bits in order (R71). -/
theorem zcriOf_asmWord (n : BitVec 6) (z c r i : Bool) (con : BitVec 4) (d s : RegAddr) :
    zcriOf (asmWord n z c r i con d s) =
      BitVec.ofBool z ++ BitVec.ofBool c ++ BitVec.ofBool r ++ BitVec.ofBool i := by
  refine BitVec.eq_of_getLsbD_eq fun k hk => ?_
  rw [zcriOf_asmWord_bit _ _ _ _ _ _ _ _ _ hk]
  have : k = 0 ∨ k = 1 ∨ k = 2 ∨ k = 3 := by omega
  revert z c r i
  rcases this with rfl | rfl | rfl | rfl <;> decide

/-- An opcode is the word of its fields: the fields cover bits 31:0 (R72). -/
theorem asmWord_of_fields (op : Opcode) :
    asmWord (instrOf op) (zOf op) (cOf op) (rOf op) (iOf op) (conOf op) (destOf op) (srcOf op) = op := by
  refine BitVec.eq_of_getLsbD_eq fun k hk => ?_
  rw [asmWord_getLsbD]
  simp only [instrOf, zOf, cOf, rOf, iOf, conOf, destOf, srcOf, zcriOf, field, BitVec.getLsbD_extractLsb']
  split_ifs with h0 h1 h2 h3 h4 h5 h6
  · simp [h0]
  · rw [show 9 + (k - 9) = k by omega]; simp; omega
  · rw [show 18 + (k - 18) = k by omega]; simp; omega
  · rw [show k = 22 by omega]; simp
  · rw [show k = 23 by omega]; simp
  · rw [show k = 24 by omega]; simp
  · rw [show k = 25 by omega]; simp
  · rw [show 26 + (k - 26) = k by omega]; simp; omega

/-! ### Bytes -/

theorem memopByte_fields : ∀ (a : BitVec 3) (sel : Bool) (index : BitVec 4),
    (memopByte a sel index).extractLsb' 5 3 = a ∧ (memopByte a sel index).getLsbD 4 = sel ∧
      (memopByte a sel index).extractLsb' 0 4 = index := by decide

theorem memopByte_of_fields : ∀ b : Byte, memopByte (b.extractLsb' 5 3) (b.getLsbD 4) (b.extractLsb' 0 4) = b := by
  decide

theorem assignByte_fields : ∀ (push : Bool) (f : BitVec 3) (b2 b1 b0 : Bool),
    let b := assignByte push f b2 b1 b0
    b.getLsbD 7 = push ∧ b.getLsbD 6 = false ∧ b.extractLsb' 3 3 = f ∧ b.getLsbD 2 = b2 ∧ b.getLsbD 1 = b1 ∧
      b.getLsbD 0 = b0 := by decide

theorem mathByte_fields : ∀ (push : Bool) (e : BitVec 6),
    (mathByte push e).getLsbD 7 = push ∧ (mathByte push e).getLsbD 6 = true ∧
      (mathByte push e).extractLsb' 0 6 = e := by decide

theorem offsetByte_fields : ∀ (long : Bool) (v : BitVec 7),
    (offsetByte long v).getLsbD 7 = long ∧ (offsetByte long v).extractLsb' 0 7 = v := by decide

theorem offsetByte_of_fields : ∀ b : Byte, offsetByte (b.getLsbD 7) (b.extractLsb' 0 7) = b := by decide

theorem packedLiteralByte_fields : ∀ (c d : Bool) (e : BitVec 5),
    (packedLiteralByte c d e).getLsbD 7 = false ∧ (packedLiteralByte c d e).getLsbD 6 = c ∧
      (packedLiteralByte c d e).getLsbD 5 = d ∧ (packedLiteralByte c d e).extractLsb' 0 5 = e := by decide

end Sys2Proof
end

