-- ==== Sys2Proof/Laws/Resolver.lean ====
section
/-! SUPPORT. The resolver's selection and the assembly call, once each. -/

namespace Sys2Proof.Machine

/-- The selected index is one of the entry's variants (R111, R131). -/
theorem select_lt_length (e : AsmEntry) (zcri : BitVec 4) (src : RegAddr) :
    (select (entryKind e) zcri src).val < (entryVariants e).length := by
  cases e with
  | normal v => simp [select, entryKind, entryVariants]
  | wr v0 v1 => simp only [select, entryKind, entryVariants]; split <;> simp
  | hub vs => simp [entryKind, entryVariants]
  | jump v0 v1 v2 v3 =>
    have := (zcri.extractLsb' 0 2).isLt
    simp only [select, entryKind, entryVariants]
    split
    · split <;> simp
    · simpa using this

/-- The resolved variant is the entry's variant at the selected index (R110, R111). -/
theorem entryVariant_select (e : AsmEntry) (zcri : BitVec 4) (src : RegAddr) :
    (entryVariants e)[(select (entryKind e) zcri src).val]? =
      some (entryVariant e (select (entryKind e) zcri src)) := by
  have h := select_lt_length e zcri src
  rw [List.getElem?_eq_getElem h]
  congr 1
  revert h
  generalize select (entryKind e) zcri src = idx
  intro h
  cases e with
  | normal v => simp [entryVariants, entryVariant]
  | wr v0 v1 =>
    obtain ⟨k, hk⟩ := idx
    simp only [entryVariants, List.length_cons, List.length_nil] at h
    have : k = 0 ∨ k = 1 := by omega
    rcases this with rfl | rfl <;> simp [entryVariants, entryVariant]
  | hub vs => simp [entryVariants, entryVariant]
  | jump v0 v1 v2 v3 =>
    obtain ⟨k, hk⟩ := idx
    simp only [entryVariants, List.length_cons, List.length_nil] at h
    have : k = 0 ∨ k = 1 ∨ k = 2 ∨ k = 3 := by omega
    rcases this with rfl | rfl | rfl | rfl <;> simp [entryVariants, entryVariant]

/-- Everything an assembly call does: it delivers the record of its opcode and changes nothing else (R130, R131). -/
theorem decodeAssembly_eq (op : Opcode) (s : State) :
    decodeAssembly op s = .next (s.deliver (.success (.instruction (decodeRecord s.tables op)))) := rfl

end Sys2Proof.Machine
end

