-- ==== Sys2Proof/Laws/Exec.lean ====
section
/-! SUPPORT. Everything a meaning can do, once. -/

namespace Sys2Proof.Machine

/-- Every meaning is one of three: the refusal of HUBOP, the assembly call of the instruction's own opcode, or a
bytecode call that pulls as many bytes as the instruction's encoding has. -/
theorem exec_cases (i : Instr) :
    (i = .asmHubop ∧ ∀ s, exec i s = .refused .unreachableVariant) ∨
    (∃ op, encode i = some (.opcode op) ∧ ∀ s, exec i s = decodeAssembly op s) ∨
    (∃ e bs, ∃ finish : Tables → Nat → CallOutcome, encode i = some (.stream e bs) ∧
      ∀ s, exec i s = streamCall bs.length (finish s.tables) s) := by
  cases i <;> first
    | exact .inl ⟨rfl, fun _ => rfl⟩
    | exact .inr (.inl ⟨_, rfl, fun _ => rfl⟩)
    | exact .inr (.inr ⟨_, _, fun t => assignmentOutcome t _, rfl, fun _ => rfl⟩)
    | exact .inr (.inr ⟨_, _, fun t => memopOutcome t _, rfl, fun _ => rfl⟩)
    | exact .inr (.inr ⟨_, _, fun _ => valueOutcome _, rfl, fun _ => rfl⟩)
    | exact .inr (.inr ⟨_, _, fun _ => literalOutcome _ _, rfl, fun _ => rfl⟩)

end Sys2Proof.Machine
end

