-- ==== Sys2Proof/Laws/PerInstr.lean ====
section
/-! SUPPORT. A fact of every instruction as syntax, one lemma per constructor: what its encoding is made of. -/

namespace Sys2Proof.Laws.EncodingLength

/-- An instruction with no encoding is ill-formed; a bytecode instruction's encoding has 1 to 4 bytes, and its entry
point's decoder reads exactly them (R33, R56, R82). -/
def Statement (i : Instr) : Prop :=
  match encode i with
  | none => i.wellFormed = false
  | some (.opcode _) => True
  | some (.stream e bs) => 1 ≤ bs.length ∧ bs.length ≤ 4 ∧ (e = .assignment ∨ e = .memoryOperation → bs.length = 1)

/-- A one-byte encoding meets the statement. -/
theorem of_one {i : Instr} {e : ByteEntry} {b : Byte} (h : encode i = some (.stream e [b])) : Statement i := by
  simp [Statement, h]

/-- An encoding of two to four bytes meets the statement at an operand entry point. -/
theorem of_more {i : Instr} {e : ByteEntry} {bs : List Byte} (h : encode i = some (.stream e bs))
    (hl : bs.length = 2 ∨ bs.length = 3 ∨ bs.length = 4) (ha : e ≠ .assignment) (hm : e ≠ .memoryOperation) :
    Statement i := by
  simp only [Statement, h]
  exact ⟨by omega, by omega, fun h' => (h'.elim ha hm).elim⟩

theorem asmRdbyte (o : FixedROps) : Statement (.asmRdbyte o) := trivial
theorem asmWrbyte (o : FixedROps) : Statement (.asmWrbyte o) := trivial
theorem asmRdword (o : FixedROps) : Statement (.asmRdword o) := trivial
theorem asmWrword (o : FixedROps) : Statement (.asmWrword o) := trivial
theorem asmRdlong (o : FixedROps) : Statement (.asmRdlong o) := trivial
theorem asmWrlong (o : FixedROps) : Statement (.asmWrlong o) := trivial
theorem asmClkset (o : HubOps) : Statement (.asmClkset o) := trivial
theorem asmCogid (o : HubOps) : Statement (.asmCogid o) := trivial
theorem asmCoginit (o : HubOps) : Statement (.asmCoginit o) := trivial
theorem asmCogstop (o : HubOps) : Statement (.asmCogstop o) := trivial
theorem asmLocknew (o : HubOps) : Statement (.asmLocknew o) := trivial
theorem asmLockret (o : HubOps) : Statement (.asmLockret o) := trivial
theorem asmLockset (o : HubOps) : Statement (.asmLockset o) := trivial
theorem asmLockclr (o : HubOps) : Statement (.asmLockclr o) := trivial
theorem asmHubop : Statement (.asmHubop) := rfl
theorem asmMul (o : FullOps) : Statement (.asmMul o) := trivial
theorem asmMuls (o : FullOps) : Statement (.asmMuls o) := trivial
theorem asmEnc (o : FullOps) : Statement (.asmEnc o) := trivial
theorem asmOnes (o : FullOps) : Statement (.asmOnes o) := trivial
theorem asmRor (o : FullOps) : Statement (.asmRor o) := trivial
theorem asmRol (o : FullOps) : Statement (.asmRol o) := trivial
theorem asmShr (o : FullOps) : Statement (.asmShr o) := trivial
theorem asmShl (o : FullOps) : Statement (.asmShl o) := trivial
theorem asmRcr (o : FullOps) : Statement (.asmRcr o) := trivial
theorem asmRcl (o : FullOps) : Statement (.asmRcl o) := trivial
theorem asmSar (o : FullOps) : Statement (.asmSar o) := trivial
theorem asmRev (o : FullOps) : Statement (.asmRev o) := trivial
theorem asmMins (o : FullOps) : Statement (.asmMins o) := trivial
theorem asmMaxs (o : FullOps) : Statement (.asmMaxs o) := trivial
theorem asmMin (o : FullOps) : Statement (.asmMin o) := trivial
theorem asmMax (o : FullOps) : Statement (.asmMax o) := trivial
theorem asmMovs (o : FullOps) : Statement (.asmMovs o) := trivial
theorem asmMovd (o : FullOps) : Statement (.asmMovd o) := trivial
theorem asmMovi (o : FullOps) : Statement (.asmMovi o) := trivial
theorem asmRet (o : RetOps) : Statement (.asmRet o) := trivial
theorem asmJmp (o : FixedROps) : Statement (.asmJmp o) := trivial
theorem asmJmpret (o : LinkOps) : Statement (.asmJmpret o) := trivial
theorem asmCall (o : LinkOps) : Statement (.asmCall o) := trivial
theorem asmAnd (o : FixedROps) : Statement (.asmAnd o) := trivial
theorem asmTest (o : FixedROps) : Statement (.asmTest o) := trivial
theorem asmAndn (o : FixedROps) : Statement (.asmAndn o) := trivial
theorem asmTestn (o : FixedROps) : Statement (.asmTestn o) := trivial
theorem asmOr (o : FullOps) : Statement (.asmOr o) := trivial
theorem asmXor (o : FullOps) : Statement (.asmXor o) := trivial
theorem asmMuxc (o : FullOps) : Statement (.asmMuxc o) := trivial
theorem asmMuxnc (o : FullOps) : Statement (.asmMuxnc o) := trivial
theorem asmMuxz (o : FullOps) : Statement (.asmMuxz o) := trivial
theorem asmMuxnz (o : FullOps) : Statement (.asmMuxnz o) := trivial
theorem asmAdd (o : FullOps) : Statement (.asmAdd o) := trivial
theorem asmSub (o : FixedROps) : Statement (.asmSub o) := trivial
theorem asmCmp (o : FixedROps) : Statement (.asmCmp o) := trivial
theorem asmAddabs (o : FullOps) : Statement (.asmAddabs o) := trivial
theorem asmSubabs (o : FullOps) : Statement (.asmSubabs o) := trivial
theorem asmSumc (o : FullOps) : Statement (.asmSumc o) := trivial
theorem asmSumnc (o : FullOps) : Statement (.asmSumnc o) := trivial
theorem asmSumz (o : FullOps) : Statement (.asmSumz o) := trivial
theorem asmSumnz (o : FullOps) : Statement (.asmSumnz o) := trivial
theorem asmMov (o : FullOps) : Statement (.asmMov o) := trivial
theorem asmNeg (o : FullOps) : Statement (.asmNeg o) := trivial
theorem asmAbs (o : FullOps) : Statement (.asmAbs o) := trivial
theorem asmAbsneg (o : FullOps) : Statement (.asmAbsneg o) := trivial
theorem asmNegc (o : FullOps) : Statement (.asmNegc o) := trivial
theorem asmNegnc (o : FullOps) : Statement (.asmNegnc o) := trivial
theorem asmNegz (o : FullOps) : Statement (.asmNegz o) := trivial
theorem asmNegnz (o : FullOps) : Statement (.asmNegnz o) := trivial
theorem asmCmps (o : FullOps) : Statement (.asmCmps o) := trivial
theorem asmCmpsx (o : FullOps) : Statement (.asmCmpsx o) := trivial
theorem asmAddx (o : FullOps) : Statement (.asmAddx o) := trivial
theorem asmSubx (o : FixedROps) : Statement (.asmSubx o) := trivial
theorem asmCmpx (o : FixedROps) : Statement (.asmCmpx o) := trivial
theorem asmAdds (o : FullOps) : Statement (.asmAdds o) := trivial
theorem asmSubs (o : FullOps) : Statement (.asmSubs o) := trivial
theorem asmAddsx (o : FullOps) : Statement (.asmAddsx o) := trivial
theorem asmSubsx (o : FullOps) : Statement (.asmSubsx o) := trivial
theorem asmCmpsub (o : FullOps) : Statement (.asmCmpsub o) := trivial
theorem asmDjnz (o : FullOps) : Statement (.asmDjnz o) := trivial
theorem asmTjnz (o : FullOps) : Statement (.asmTjnz o) := trivial
theorem asmTjz (o : FullOps) : Statement (.asmTjz o) := trivial
theorem asmWaitpeq (o : FullOps) : Statement (.asmWaitpeq o) := trivial
theorem asmWaitpne (o : FullOps) : Statement (.asmWaitpne o) := trivial
theorem asmWaitcnt (o : FullOps) : Statement (.asmWaitcnt o) := trivial
theorem asmWaitvid (o : FullOps) : Statement (.asmWaitvid o) := trivial
theorem memopUnknownA0 (sel : Bool) (index : BitVec 4) : Statement (.memopUnknownA0 sel index) := of_one rfl
theorem memopUnknownA1 (sel : Bool) (index : BitVec 4) : Statement (.memopUnknownA1 sel index) := of_one rfl
theorem memopUnknownA2 (sel : Bool) (index : BitVec 4) : Statement (.memopUnknownA2 sel index) := of_one rfl
theorem memopUnknownA3 (sel : Bool) (index : BitVec 4) : Statement (.memopUnknownA3 sel index) := of_one rfl
theorem memopPushA4 (sel : Bool) (index : BitVec 4) : Statement (.memopPushA4 sel index) := of_one rfl
theorem memopPopA5 (sel : Bool) (index : BitVec 4) : Statement (.memopPopA5 sel index) := of_one rfl
theorem memopEffectA6 (sel : Bool) (index : BitVec 4) : Statement (.memopEffectA6 sel index) := of_one rfl
theorem memopUnknownA7 (sel : Bool) (index : BitVec 4) : Statement (.memopUnknownA7 sel index) := of_one rfl
theorem assignWrite (push bit2 bit0 : Bool) : Statement (.assignWrite push bit2 bit0) := of_one rfl
theorem assignRepeatCompare (push bit2 bit0 : Bool) : Statement (.assignRepeatCompare push bit2 bit0) := of_one rfl
theorem assignRandomForward (push bit1 bit0 : Bool) : Statement (.assignRandomForward push bit1 bit0) := of_one rfl
theorem assignRandomReverse (push bit1 bit0 : Bool) : Statement (.assignRandomReverse push bit1 bit0) := of_one rfl
theorem assignSignExtendByte (push bit1 bit0 : Bool) : Statement (.assignSignExtendByte push bit1 bit0) := of_one rfl
theorem assignSignExtendWord (push bit1 bit0 : Bool) : Statement (.assignSignExtendWord push bit1 bit0) := of_one rfl
theorem assignPostClear (push bit1 bit0 : Bool) : Statement (.assignPostClear push bit1 bit0) := of_one rfl
theorem assignPostSet (push bit1 bit0 : Bool) : Statement (.assignPostSet push bit1 bit0) := of_one rfl
theorem assignPreIncBit (push bit0 : Bool) : Statement (.assignPreIncBit push bit0) := of_one rfl
theorem assignPreIncByte (push bit0 : Bool) : Statement (.assignPreIncByte push bit0) := of_one rfl
theorem assignPreIncWord (push bit0 : Bool) : Statement (.assignPreIncWord push bit0) := of_one rfl
theorem assignPreIncLong (push bit0 : Bool) : Statement (.assignPreIncLong push bit0) := of_one rfl
theorem assignPostIncBit (push bit0 : Bool) : Statement (.assignPostIncBit push bit0) := of_one rfl
theorem assignPostIncByte (push bit0 : Bool) : Statement (.assignPostIncByte push bit0) := of_one rfl
theorem assignPostIncWord (push bit0 : Bool) : Statement (.assignPostIncWord push bit0) := of_one rfl
theorem assignPostIncLong (push bit0 : Bool) : Statement (.assignPostIncLong push bit0) := of_one rfl
theorem assignPreDecBit (push bit0 : Bool) : Statement (.assignPreDecBit push bit0) := of_one rfl
theorem assignPreDecByte (push bit0 : Bool) : Statement (.assignPreDecByte push bit0) := of_one rfl
theorem assignPreDecWord (push bit0 : Bool) : Statement (.assignPreDecWord push bit0) := of_one rfl
theorem assignPreDecLong (push bit0 : Bool) : Statement (.assignPreDecLong push bit0) := of_one rfl
theorem assignPostDecBit (push bit0 : Bool) : Statement (.assignPostDecBit push bit0) := of_one rfl
theorem assignPostDecByte (push bit0 : Bool) : Statement (.assignPostDecByte push bit0) := of_one rfl
theorem assignPostDecWord (push bit0 : Bool) : Statement (.assignPostDecWord push bit0) := of_one rfl
theorem assignPostDecLong (push bit0 : Bool) : Statement (.assignPostDecLong push bit0) := of_one rfl
theorem mathRor (push : Bool) : Statement (.mathRor push) := of_one rfl
theorem mathRol (push : Bool) : Statement (.mathRol push) := of_one rfl
theorem mathShr (push : Bool) : Statement (.mathShr push) := of_one rfl
theorem mathShl (push : Bool) : Statement (.mathShl push) := of_one rfl
theorem mathMin (push : Bool) : Statement (.mathMin push) := of_one rfl
theorem mathMax (push : Bool) : Statement (.mathMax push) := of_one rfl
theorem mathNeg (push : Bool) : Statement (.mathNeg push) := of_one rfl
theorem mathBitNot (push : Bool) : Statement (.mathBitNot push) := of_one rfl
theorem mathAnd (push : Bool) : Statement (.mathAnd push) := of_one rfl
theorem mathAbs (push : Bool) : Statement (.mathAbs push) := of_one rfl
theorem mathOr (push : Bool) : Statement (.mathOr push) := of_one rfl
theorem mathXor (push : Bool) : Statement (.mathXor push) := of_one rfl
theorem mathAdd (push : Bool) : Statement (.mathAdd push) := of_one rfl
theorem mathSub (push : Bool) : Statement (.mathSub push) := of_one rfl
theorem mathSar (push : Bool) : Statement (.mathSar push) := of_one rfl
theorem mathRev (push : Bool) : Statement (.mathRev push) := of_one rfl
theorem mathLogAnd (push : Bool) : Statement (.mathLogAnd push) := of_one rfl
theorem mathEncode (push : Bool) : Statement (.mathEncode push) := of_one rfl
theorem mathLogOr (push : Bool) : Statement (.mathLogOr push) := of_one rfl
theorem mathDecode (push : Bool) : Statement (.mathDecode push) := of_one rfl
theorem mathMul (push : Bool) : Statement (.mathMul push) := of_one rfl
theorem mathMulHi (push : Bool) : Statement (.mathMulHi push) := of_one rfl
theorem mathDiv (push : Bool) : Statement (.mathDiv push) := of_one rfl
theorem mathMod (push : Bool) : Statement (.mathMod push) := of_one rfl
theorem mathSqrt (push : Bool) : Statement (.mathSqrt push) := of_one rfl
theorem mathLt (push : Bool) : Statement (.mathLt push) := of_one rfl
theorem mathGt (push : Bool) : Statement (.mathGt push) := of_one rfl
theorem mathNe (push : Bool) : Statement (.mathNe push) := of_one rfl
theorem mathEq (push : Bool) : Statement (.mathEq push) := of_one rfl
theorem mathLe (push : Bool) : Statement (.mathLe push) := of_one rfl
theorem mathGe (push : Bool) : Statement (.mathGe push) := of_one rfl
theorem mathLogNot (push : Bool) : Statement (.mathLogNot push) := of_one rfl
theorem mathRorSwap (push : Bool) : Statement (.mathRorSwap push) := of_one rfl
theorem mathRolSwap (push : Bool) : Statement (.mathRolSwap push) := of_one rfl
theorem mathShrSwap (push : Bool) : Statement (.mathShrSwap push) := of_one rfl
theorem mathShlSwap (push : Bool) : Statement (.mathShlSwap push) := of_one rfl
theorem mathMinSwap (push : Bool) : Statement (.mathMinSwap push) := of_one rfl
theorem mathMaxSwap (push : Bool) : Statement (.mathMaxSwap push) := of_one rfl
theorem mathNegSwap (push : Bool) : Statement (.mathNegSwap push) := of_one rfl
theorem mathBitNotSwap (push : Bool) : Statement (.mathBitNotSwap push) := of_one rfl
theorem mathAndSwap (push : Bool) : Statement (.mathAndSwap push) := of_one rfl
theorem mathAbsSwap (push : Bool) : Statement (.mathAbsSwap push) := of_one rfl
theorem mathOrSwap (push : Bool) : Statement (.mathOrSwap push) := of_one rfl
theorem mathXorSwap (push : Bool) : Statement (.mathXorSwap push) := of_one rfl
theorem mathAddSwap (push : Bool) : Statement (.mathAddSwap push) := of_one rfl
theorem mathSubSwap (push : Bool) : Statement (.mathSubSwap push) := of_one rfl
theorem mathSarSwap (push : Bool) : Statement (.mathSarSwap push) := of_one rfl
theorem mathRevSwap (push : Bool) : Statement (.mathRevSwap push) := of_one rfl
theorem mathLogAndSwap (push : Bool) : Statement (.mathLogAndSwap push) := of_one rfl
theorem mathEncodeSwap (push : Bool) : Statement (.mathEncodeSwap push) := of_one rfl
theorem mathLogOrSwap (push : Bool) : Statement (.mathLogOrSwap push) := of_one rfl
theorem mathDecodeSwap (push : Bool) : Statement (.mathDecodeSwap push) := of_one rfl
theorem mathMulSwap (push : Bool) : Statement (.mathMulSwap push) := of_one rfl
theorem mathMulHiSwap (push : Bool) : Statement (.mathMulHiSwap push) := of_one rfl
theorem mathDivSwap (push : Bool) : Statement (.mathDivSwap push) := of_one rfl
theorem mathModSwap (push : Bool) : Statement (.mathModSwap push) := of_one rfl
theorem mathSqrtSwap (push : Bool) : Statement (.mathSqrtSwap push) := of_one rfl
theorem mathLtSwap (push : Bool) : Statement (.mathLtSwap push) := of_one rfl
theorem mathGtSwap (push : Bool) : Statement (.mathGtSwap push) := of_one rfl
theorem mathNeSwap (push : Bool) : Statement (.mathNeSwap push) := of_one rfl
theorem mathEqSwap (push : Bool) : Statement (.mathEqSwap push) := of_one rfl
theorem mathLeSwap (push : Bool) : Statement (.mathLeSwap push) := of_one rfl
theorem mathGeSwap (push : Bool) : Statement (.mathGeSwap push) := of_one rfl
theorem mathLogNotSwap (push : Bool) : Statement (.mathLogNotSwap push) := of_one rfl
theorem operandSignedOffset1 (v : BitVec 7) : Statement (.operandSignedOffset1 v) := of_one rfl
theorem operandSignedOffset2 (hi : BitVec 7) (lo : Byte) : Statement (.operandSignedOffset2 hi lo) := of_more rfl (.inl rfl) nofun nofun
theorem operandSignedPackedOffset1 (v : BitVec 7) : Statement (.operandSignedPackedOffset1 v) := of_one rfl
theorem operandSignedPackedOffset2 (hi : BitVec 7) (lo : Byte) : Statement (.operandSignedPackedOffset2 hi lo) := of_more rfl (.inl rfl) nofun nofun
theorem operandPackedLiteral (complement decrement : Bool) (exponent : BitVec 5) : Statement (.operandPackedLiteral complement decrement exponent) := of_one rfl
theorem operandPackedLiteralMalformed (low : BitVec 7) : Statement (.operandPackedLiteralMalformed low) := of_one rfl
theorem operandPackedOffset1 (v : BitVec 7) : Statement (.operandPackedOffset1 v) := of_one rfl
theorem operandPackedOffset2 (hi : BitVec 7) (lo : Byte) : Statement (.operandPackedOffset2 hi lo) := of_more rfl (.inl rfl) nofun nofun
theorem operandWord (b0 b1 : Byte) : Statement (.operandWord b0 b1) := of_more rfl (.inl rfl) nofun nofun
theorem operandNearLong (b0 b1 b2 : Byte) : Statement (.operandNearLong b0 b1 b2) := of_more rfl (.inr (.inl rfl)) nofun nofun
theorem operandLong (b0 b1 b2 b3 : Byte) : Statement (.operandLong b0 b1 b2 b3) := of_more rfl (.inr (.inr rfl)) nofun nofun

end Sys2Proof.Laws.EncodingLength
end

