-- ==== Sys2Proof/Laws/Step.lean ====
section
/-! SUPPORT. The one-owner rule of cursors, and everything a step can do, once each. -/

namespace Sys2Proof.Machine

/-- Only a bytecode call with a handle names a stream. -/
theorem requestHandle_eq_some_iff (q : Request) (h : Nat) :
    requestHandle q = some h ↔ ∃ e, q = .call (.bytecode e (some h)) := by
  constructor
  · intro hq
    cases q with
    | call c =>
      cases c with
      | bytecode e handle => exact ⟨e, by simpa [requestHandle] using hq⟩
      | _ => cases hq
    | _ => cases hq
  · rintro ⟨e, rfl⟩
    rfl

/-- A sequence holds the open streams its calls name (R62). -/
theorem mem_streamsHeld (opened : Nat) (sequence : List Request) (h : Nat) :
    h ∈ streamsHeld opened sequence ↔ h < opened ∧ NamesStream sequence h := by
  simp only [streamsHeld, List.mem_filter, List.mem_filterMap, decide_eq_true_eq, NamesStream,
    requestHandle_eq_some_iff]
  constructor
  · rintro ⟨⟨_, hq, e, rfl⟩, ho⟩
    exact ⟨ho, e, hq⟩
  · rintro ⟨ho, e, hq⟩
    exact ⟨⟨_, hq, e, rfl⟩, ho⟩

/-- A cursor that the sequences do not share has one owner: no two of them hold one open stream (R62, R343). -/
theorem cursorsShared_eq_false_iff (opened : Nat) (sequences : List (List Request)) :
    cursorsShared opened sequences = false ↔
      sequences.Pairwise fun a b => ∀ h < opened, NamesStream a h → ¬ NamesStream b h := by
  induction sequences with
  | nil => simp [cursorsShared]
  | cons a others ih =>
    simp only [cursorsShared, Bool.or_eq_false_iff, ih, List.pairwise_cons, List.any_eq_false, List.any_eq_true,
      List.contains_iff_mem, mem_streamsHeld, not_exists, not_and]
    exact and_congr_left' ⟨fun h1 b hb h ho ha hb' => h1 b hb h ⟨ho, ha⟩ ho hb',
      fun h1 b hb h ha ho hb' => h1 b hb h ha.1 ha.2 hb'⟩

/-- One sequence alone shares no cursor. -/
@[simp] theorem cursorsShared_one (opened : Nat) (sequence : List Request) :
    cursorsShared opened [sequence] = false := rfl

/-- A step that gives a next state finds no cursor shared, and then it idles, drops a sequence with no request left, or
serves the first request of the first sequence. -/
theorem step_cases (s t : State) (h : step s = .next t) :
    s.sharesCursor = false ∧
      ((s.sequences = [] ∧ t = s) ∨
      (∃ others, s.sequences = [] :: others ∧ t = s.withSequences others) ∨
      ∃ q later others, s.sequences = (q :: later) :: others ∧
        serve q (s.withSequences (others ++ [later])) = .next t) := by
  unfold step at h
  split at h
  · cases h
  · rename_i hs
    refine ⟨by simpa using hs, ?_⟩
    split at h
    · exact .inl ⟨‹_›, by cases h; rfl⟩
    · exact .inr (.inl ⟨_, ‹_›, by cases h; rfl⟩)
    · exact .inr (.inr ⟨_, _, _, ‹_›, h⟩)

end Sys2Proof.Machine
end

