-- ==== Sys2Proof/Tests/Slice0.lean ====
section
/-! SUPPORT. The model's own tests: ill-formed terms, one word of every row written out from its encoding, the vectors
of 95_test_vectors.md, and for each statement with hypotheses a state and operands that meet them. -/

set_option maxRecDepth 100000

namespace Sys2Proof.Tests

open Sys2Proof.Machine

/-! ### Helpers -/

/-- The operands of the second example of each Normal row: ZCRI 1001, CON 10, DEST 0x1FF, SRC 0x1F1. -/
def opsB : FullOps := { z := true, c := false, r := false, i := true, con := 10#4, dest := 0x1FF#9, src := 0x1F1#9 }

/-- The operands of the examples of the WR rows: ZC.I 00.0, CON 15, DEST 1, SRC 2. -/
def opsW : FixedROps := { z := false, c := false, i := false, con := 15#4, dest := 1#9, src := 2#9 }

/-- The operands of V4's first part: ZCRI 0001, CON 15, DEST 0. -/
def opsH : HubOps := { z := false, c := false, r := false, i := true, con := 15#4, dest := 0#9, srcHi := 0#6 }

/-- The operands of V4's second part: ZCRI 1111, CON 15, DEST 0. -/
def opsH1 (srcHi : BitVec 6) : HubOps :=
  { z := true, c := true, r := true, i := true, con := 15#4, dest := 0#9, srcHi := srcHi }

/-- Stream 0 holds `bs` from address 5 on, its cursor on the first, and a call presents it. -/
def atBytes (bs : List Byte) : State :=
  { State.reset with handle := some 0, cursors := [5], image := Memory.writeList [] 5 bs }

/-- The machine after reset with these requests to serve, and two streams on `bs`. -/
def asked (sequences : List (List Request)) (bs : List Byte) : State :=
  { State.reset with cursors := [5, 6], image := Memory.writeList [] 5 bs, sequences := sequences }

/-- What a caller sees of a call: the outcome and the cursors. -/
def seen : Host.Outcome State Fault Refusal → Option (Option CallOutcome × List Nat)
  | .next t => some (t.outcome, t.cursors)
  | _ => none

/-- The name, index and predicates of an assembly record. -/
def verdict : Host.Outcome State Fault Refusal → Option (String × Nat × List Bool × List String)
  | .next t =>
    match t.outcome with
    | some (.success (.instruction d)) =>
      some (d.variant.name, d.variantIndex.val, [d.wzEff, d.wcEff, d.wrEff, d.nrEff, d.immEff], d.conditions)
    | _ => none
  | _ => none

theorem atBytes_streamEnds (bs : List Byte) : StreamEnds (atBytes bs) 0 5 bs :=
  ⟨⟨rfl, rfl, fun k b h => Memory.read_writeList bs [] 5 k b h⟩,
    Memory.read_writeList_above bs [] 5 (5 + bs.length) (Nat.le_refl _)⟩

theorem atBytes_streamAt (bs : List Byte) : StreamAt (atBytes bs) 0 5 bs := (atBytes_streamEnds bs).1

/-! ### Well-formedness -/

theorem test_wellFormed_refuses_jmp_to_zero :
    Instr.wellFormed (.asmJmp { z := false, c := false, i := false, con := 15#4, dest := 0#9, src := 0#9 }) = false := by
  decide

theorem test_wellFormed_refuses_hubop : Instr.wellFormed .asmHubop = false := by decide

/-! ### The tables -/

theorem test_default_tables_wf : tablesWf defaultTables = true := by decide

theorem test_default_families_full : familiesFull defaultTables = true := by decide

/-- R121: one synonym of another family at CON 0, or at CON 15, does not meet the constraints; NOP at CON 0 does. -/
theorem test_condWf_families :
    condWf { defaultTables with cond := defaultCond.set 0 ["FOO"] } = false ∧
    condWf { defaultTables with cond := defaultCond.set 15 ["FOO"] } = false ∧
    condWf { defaultTables with cond := defaultCond.set 0 ["NOP", ""] } = true := by decide

/-- A table without its Hub entry does not meet the constraints. -/
theorem test_tablesWf_refuses :
    asmWf { defaultTables with asm := defaultTables.asm.set 3 (.normal (variantOf "HUB" true true true true)) } = false := by
  decide

/-! ### Decoding: one word of every row -/

/-- The second example of each Normal row (R146 to R205): `nnnnnn 1001 1010 111111111 111110001`. -/
theorem test_decode_normal_0 :
    [0x126BFFF1#32, 0x166BFFF1#32, 0x1A6BFFF1#32, 0x1E6BFFF1#32, 0x226BFFF1#32, 0x266BFFF1#32,
         0x2A6BFFF1#32, 0x2E6BFFF1#32, 0x326BFFF1#32, 0x366BFFF1#32, 0x3A6BFFF1#32, 0x3E6BFFF1#32,
         0x426BFFF1#32, 0x466BFFF1#32, 0x4A6BFFF1#32, 0x4E6BFFF1#32, 0x526BFFF1#32, 0x566BFFF1#32, 0x5A6BFFF1#32].map decodeAsm =
      [.asmMul opsB, .asmMuls opsB, .asmEnc opsB, .asmOnes opsB, .asmRor opsB, .asmRol opsB, .asmShr opsB,
       .asmShl opsB, .asmRcr opsB, .asmRcl opsB, .asmSar opsB, .asmRev opsB, .asmMins opsB, .asmMaxs opsB,
       .asmMin opsB, .asmMax opsB, .asmMovs opsB, .asmMovd opsB, .asmMovi opsB] := by
  decide

/-- The second example of each Normal row (R146 to R205): `nnnnnn 1001 1010 111111111 111110001`. -/
theorem test_decode_normal_1 :
    [0x6A6BFFF1#32, 0x6E6BFFF1#32, 0x726BFFF1#32, 0x766BFFF1#32, 0x7A6BFFF1#32, 0x7E6BFFF1#32,
         0x826BFFF1#32, 0x8A6BFFF1#32, 0x8E6BFFF1#32, 0x926BFFF1#32, 0x966BFFF1#32, 0x9A6BFFF1#32,
         0x9E6BFFF1#32, 0xA26BFFF1#32, 0xA66BFFF1#32, 0xAA6BFFF1#32, 0xAE6BFFF1#32, 0xB26BFFF1#32, 0xB66BFFF1#32].map decodeAsm =
      [.asmOr opsB, .asmXor opsB, .asmMuxc opsB, .asmMuxnc opsB, .asmMuxz opsB, .asmMuxnz opsB, .asmAdd opsB,
       .asmAddabs opsB, .asmSubabs opsB, .asmSumc opsB, .asmSumnc opsB, .asmSumz opsB, .asmSumnz opsB,
       .asmMov opsB, .asmNeg opsB, .asmAbs opsB, .asmAbsneg opsB, .asmNegc opsB, .asmNegnc opsB] := by
  decide

/-- The second example of each Normal row (R146 to R205): `nnnnnn 1001 1010 111111111 111110001`. -/
theorem test_decode_normal_2 :
    [0xBA6BFFF1#32, 0xBE6BFFF1#32, 0xC26BFFF1#32, 0xC66BFFF1#32, 0xCA6BFFF1#32, 0xD26BFFF1#32,
         0xD66BFFF1#32, 0xDA6BFFF1#32, 0xDE6BFFF1#32, 0xE26BFFF1#32, 0xE66BFFF1#32, 0xEA6BFFF1#32,
         0xEE6BFFF1#32, 0xF26BFFF1#32, 0xF66BFFF1#32, 0xFA6BFFF1#32, 0xFE6BFFF1#32].map decodeAsm =
      [.asmNegz opsB, .asmNegnz opsB, .asmCmps opsB, .asmCmpsx opsB, .asmAddx opsB, .asmAdds opsB,
       .asmSubs opsB, .asmAddsx opsB, .asmSubsx opsB, .asmCmpsub opsB, .asmDjnz opsB, .asmTjnz opsB,
       .asmTjz opsB, .asmWaitpeq opsB, .asmWaitpne opsB, .asmWaitcnt opsB, .asmWaitvid opsB] := by
  decide

/-- The examples of each WR row, R = 1 then R = 0 (R142 to R144, R166, R167, R175, R193): CON 15, DEST 1, SRC 2. -/
theorem test_decode_wr :
    [0x00BC0202#32, 0x003C0202#32, 0x04BC0202#32, 0x043C0202#32, 0x08BC0202#32, 0x083C0202#32,
         0x60BC0202#32, 0x603C0202#32, 0x64BC0202#32, 0x643C0202#32, 0x84BC0202#32, 0x843C0202#32,
         0xCCBC0202#32, 0xCC3C0202#32].map decodeAsm =
      [.asmRdbyte opsW, .asmWrbyte opsW, .asmRdword opsW, .asmWrword opsW, .asmRdlong opsW, .asmWrlong opsW,
       .asmAnd opsW, .asmTest opsW, .asmAndn opsW, .asmTestn opsW, .asmSub opsW, .asmCmp opsW, .asmSubx opsW,
       .asmCmpx opsW] := by
  decide

/-- V4: the Hub entry with SRC 0 to 7, and with SRC 8, 0x1F8 and 0x1FF. -/
theorem test_decode_hub :
    [0x0C7C0000#32, 0x0C7C0001#32, 0x0C7C0002#32, 0x0C7C0003#32, 0x0C7C0004#32, 0x0C7C0005#32,
         0x0C7C0006#32, 0x0C7C0007#32, 0x0FFC0008#32, 0x0FFC01F8#32, 0x0FFC01FF#32].map decodeAsm =
      [.asmClkset opsH, .asmCogid opsH, .asmCoginit opsH, .asmCogstop opsH, .asmLocknew opsH, .asmLockret opsH,
       .asmLockset opsH, .asmLockclr opsH, .asmClkset (opsH1 1#6), .asmClkset (opsH1 63#6),
       .asmLockclr (opsH1 63#6)] := by
  decide

/-- V3: the Jump entry by n and SRC. -/
theorem test_decode_jump :
    [0x5C3C0005#32, 0x5C7C0000#32, 0x5C7C0007#32, 0x5CBC200C#32, 0x5CFC0000#32].map decodeAsm =
      [.asmJmp { z := false, c := false, i := false, con := 15#4, dest := 0#9, src := 5#9 },
       .asmRet { z := false, c := false, i := true, con := 15#4, dest := 0#9 },
       .asmJmp { z := false, c := false, i := true, con := 15#4, dest := 0#9, src := 7#9 },
       .asmJmpret { z := false, c := false, con := 15#4, dest := 16#9, src := 12#9 },
       .asmCall { z := false, c := false, con := 15#4, dest := 0#9, src := 0#9 }] := by
  decide

/-- V23: one byte of each action code, `aaa 1 0001` and `aaa 0 1110` in turn. -/
theorem test_decode_memop :
    [0x11#8, 0x2E#8, 0x51#8, 0x6E#8, 0x91#8, 0xAE#8, 0xD1#8, 0xEE#8].map decodeMemopByte =
      [.memopUnknownA0 true 1#4, .memopUnknownA1 false 14#4, .memopUnknownA2 true 1#4,
       .memopUnknownA3 false 14#4, .memopPushA4 true 1#4, .memopPopA5 false 14#4, .memopEffectA6 true 1#4,
       .memopUnknownA7 false 14#4] := by
  decide

/-- V20: one byte of each assignment row, push set but in family 0 (`p0fffabx`). -/
theorem test_decode_assign :
    [0x04#8, 0x06#8, 0x89#8, 0x8D#8, 0x91#8, 0x95#8, 0x99#8, 0x9D#8, 0xA0#8, 0xA2#8, 0xA4#8, 0xA6#8,
         0xA8#8, 0xAA#8, 0xAC#8, 0xAE#8, 0xB0#8, 0xB2#8, 0xB4#8, 0xB6#8, 0xB8#8, 0xBA#8, 0xBC#8, 0xBE#8].map decodeAssignByte =
      [.assignWrite false true false, .assignRepeatCompare false true false,
       .assignRandomForward true false true, .assignRandomReverse true false true,
       .assignSignExtendByte true false true, .assignSignExtendWord true false true,
       .assignPostClear true false true, .assignPostSet true false true, .assignPreIncBit true false,
       .assignPreIncByte true false, .assignPreIncWord true false, .assignPreIncLong true false,
       .assignPostIncBit true false, .assignPostIncByte true false, .assignPostIncWord true false,
       .assignPostIncLong true false, .assignPreDecBit true false, .assignPreDecByte true false,
       .assignPreDecWord true false, .assignPreDecLong true false, .assignPostDecBit true false,
       .assignPostDecByte true false, .assignPostDecWord true false, .assignPostDecLong true false] := by
  decide

/-- V21: one byte of each math row with swap clear, push set in every second. -/
theorem test_decode_math_low :
    [0x40#8, 0xC1#8, 0x42#8, 0xC3#8, 0x44#8, 0xC5#8, 0x46#8, 0xC7#8, 0x48#8, 0xC9#8, 0x4A#8, 0xCB#8,
         0x4C#8, 0xCD#8, 0x4E#8, 0xCF#8, 0x50#8, 0xD1#8, 0x52#8, 0xD3#8, 0x54#8, 0xD5#8, 0x56#8, 0xD7#8,
         0x58#8, 0xD9#8, 0x5A#8, 0xDB#8, 0x5C#8, 0xDD#8, 0x5E#8, 0xDF#8].map decodeAssignByte =
      [.mathRor false, .mathRol true, .mathShr false, .mathShl true, .mathMin false, .mathMax true,
       .mathNeg false, .mathBitNot true, .mathAnd false, .mathAbs true, .mathOr false, .mathXor true,
       .mathAdd false, .mathSub true, .mathSar false, .mathRev true, .mathLogAnd false, .mathEncode true,
       .mathLogOr false, .mathDecode true, .mathMul false, .mathMulHi true, .mathDiv false, .mathMod true,
       .mathSqrt false, .mathLt true, .mathGt false, .mathNe true, .mathEq false, .mathLe true, .mathGe false,
       .mathLogNot true] := by
  decide

/-- V21: one byte of each math row with swap set, push set in every second. -/
theorem test_decode_math_high :
    [0x60#8, 0xE1#8, 0x62#8, 0xE3#8, 0x64#8, 0xE5#8, 0x66#8, 0xE7#8, 0x68#8, 0xE9#8, 0x6A#8, 0xEB#8,
         0x6C#8, 0xED#8, 0x6E#8, 0xEF#8, 0x70#8, 0xF1#8, 0x72#8, 0xF3#8, 0x74#8, 0xF5#8, 0x76#8, 0xF7#8,
         0x78#8, 0xF9#8, 0x7A#8, 0xFB#8, 0x7C#8, 0xFD#8, 0x7E#8, 0xFF#8].map decodeAssignByte =
      [.mathRorSwap false, .mathRolSwap true, .mathShrSwap false, .mathShlSwap true, .mathMinSwap false,
       .mathMaxSwap true, .mathNegSwap false, .mathBitNotSwap true, .mathAndSwap false, .mathAbsSwap true,
       .mathOrSwap false, .mathXorSwap true, .mathAddSwap false, .mathSubSwap true, .mathSarSwap false,
       .mathRevSwap true, .mathLogAndSwap false, .mathEncodeSwap true, .mathLogOrSwap false,
       .mathDecodeSwap true, .mathMulSwap false, .mathMulHiSwap true, .mathDivSwap false, .mathModSwap true,
       .mathSqrtSwap false, .mathLtSwap true, .mathGtSwap false, .mathNeSwap true, .mathEqSwap false,
       .mathLeSwap true, .mathGeSwap false, .mathLogNotSwap true] := by
  decide

/-- The operand rows by their first byte (R80), with the bytes after them left over; V16 to V19. -/
theorem test_decode_operands :
    decodeBytes .signedOffset [0x7F#8, 0x33#8] = .ok (.operandSignedOffset1 0x7F#7, [0x33#8]) ∧
    decodeBytes .signedOffset [0x81#8, 0x00#8, 0x33#8] = .ok (.operandSignedOffset2 1#7 0#8, [0x33#8]) ∧
    decodeBytes .signedPackedOffset [0x40#8] = .ok (.operandSignedPackedOffset1 0x40#7, []) ∧
    decodeBytes .signedPackedOffset [0xBF#8, 0xFF#8] = .ok (.operandSignedPackedOffset2 0x3F#7 0xFF#8, []) ∧
    decodeBytes .packedLiteral [0x5E#8] = .ok (.operandPackedLiteral true false 30#5, []) ∧
    decodeBytes .packedLiteral [0x85#8] = .ok (.operandPackedLiteralMalformed 5#7, []) ∧
    decodeBytes .packedOffset [0x12#8, 0x34#8] = .ok (.operandPackedOffset1 0x12#7, [0x34#8]) ∧
    decodeBytes .packedOffset [0xC0#8, 0x00#8] = .ok (.operandPackedOffset2 0x40#7 0#8, []) ∧
    decodeBytes .word [0x12#8, 0x34#8, 0x56#8] = .ok (.operandWord 0x12#8 0x34#8, [0x56#8]) ∧
    decodeBytes .nearLong [1#8, 2#8, 3#8] = .ok (.operandNearLong 1#8 2#8 3#8, []) ∧
    decodeBytes .long [0xDE#8, 0xAD#8, 0xBE#8, 0xEF#8] = .ok (.operandLong 0xDE#8 0xAD#8 0xBE#8 0xEF#8, []) :=
  ⟨rfl, rfl, rfl, rfl, rfl, rfl, rfl, rfl, rfl, rfl, rfl⟩

/-! ### Vectors of the spec -/

/-- P1: the words of an assembly routine, the all-zero word among them. -/
theorem test_p1_words :
    [0xA0FC0A01#32, 0x857C0A0A#32, 0x5C7C0000#32, 0x00000000#32, 0x87FBE801#32].map
        (fun op => verdict (exec (decodeAsm op) State.reset)) =
      [some ("MOV", 0, [false, false, true, false, true], ["IF_ALWAYS"]),
       some ("CMP", 1, [false, true, false, false, true], ["IF_ALWAYS"]),
       some ("RET", 1, [false, false, false, false, true], ["IF_ALWAYS"]),
       some ("WRBYTE", 1, [false, false, false, false, false], ["IF_NEVER"]),
       some ("SUB", 0, [true, true, false, false, true], ["IF_C_OR_Z", "IF_Z_OR_C", "IF_BE"])] := by
  decide

/-- R205's second example. -/
theorem test_waitvid :
    verdict (exec (decodeAsm 0xFE6BFFF1#32) State.reset) =
      some ("WAITVID", 0, [true, false, false, true, true], ["IF_Z", "IF_E"]) := by decide

/-- V16: the ends of the ranges of the signed forms. -/
theorem test_v16_values :
    [signedOffsetShort 0x3F#7, signedOffsetShort 0x40#7, signedPackedOffsetShort 0x40#7, signedOffsetLong 0x3F#7 0xFF#8,
     signedOffsetLong 0x40#7 0x00#8, signedPackedOffsetLong 0x40#7 0x00#8, signedPackedOffsetLong 0x7F#7 0x80#8] =
      [63#32, BitVec.ofInt 32 (-64), BitVec.ofInt 32 (-64), 16383#32, BitVec.ofInt 32 (-16384),
       BitVec.ofInt 32 (-16384), BitVec.ofInt 32 (-128)] := by decide

/-- V6 and V17: the packed literal at exponents 0, 30 and 31. -/
theorem test_v17_values :
    [packedLiteralValue false false 0#5, packedLiteralValue false true 0#5, packedLiteralValue true false 0#5,
     packedLiteralValue false true 30#5, packedLiteralValue true true 30#5, packedLiteralValue false false 31#5,
     packedLiteralValue false true 31#5, packedLiteralValue true false 31#5, packedLiteralValue true true 31#5] =
      [2#32, 1#32, 0xFFFFFFFD#32, 0x7FFFFFFF#32, 0x80000000#32, 0#32, 0xFFFFFFFF#32, 0xFFFFFFFF#32, 0#32] := by
  decide

/-- P2, call 8: the malformed packed literal recovers to the sentinel, one byte consumed. -/
theorem test_p2_malformed :
    seen (serveCall (.bytecode .packedLiteral (some 0)) (atBytes [0x85#8, 0x12#8])) =
      some (some (.success (.value { value := 0x55555555#32, consumed := 1, malformed := some true })), [6]) := by
  decide

/-- P2, call 9, and V18: a word, and a two-byte packed offset. -/
theorem test_p2_word :
    seen (serveCall (.bytecode .word (some 0)) (atBytes [0x12#8, 0x34#8])) =
      some (some (.success (.value { value := 0x1234#32, consumed := 2, malformed := none })), [7]) ∧
    seen (serveCall (.bytecode .packedOffset (some 0)) (atBytes [0xFF#8, 0xFF#8])) =
      some (some (.success (.value { value := 32767#32, consumed := 2, malformed := none })), [7]) := by
  decide

/-- P3: failures mid-operand, the bytes pulled staying consumed; an absent handle; an empty stream. -/
theorem test_p3_failures :
    seen (serveCall (.bytecode .packedOffset (some 0)) (atBytes [0x81#8])) = some (some (.streamExhausted 1), [6]) ∧
    seen (serveCall (.bytecode .long (some 0)) (atBytes [0x12#8, 0x34#8, 0x56#8])) =
      some (some (.streamExhausted 3), [8]) ∧
    seen (serveCall (.bytecode .word none) (atBytes [0x12#8, 0x34#8])) = some (some .invalidArgument, [5]) ∧
    seen (serveCall (.bytecode .packedLiteral (some 0)) (atBytes [])) = some (some (.streamExhausted 0), [5]) := by
  decide

/-- V22: a family with a gap gives NoVariant, one byte consumed. -/
theorem test_v22_gap :
    let gap : AssignFamily := { rule := .normal, variants := [plainVariant "RANDOM_FORWARD"] }
    let s := { atBytes [0x0C#8] with tables := { defaultTables with families := defaultFamilies.set 1 gap } }
    seen (exec (.assignRandomReverse false false false) s) = some (some (.noVariant 0x0C#8), [6]) := by
  decide

/-- V23 and R290's example: byte 0x91 is a Push of CNT at 0x1F1. -/
theorem test_v23_push_cnt :
    seen (exec (.memopPushA4 true 1#4) (atBytes [0x91#8])) =
      some (some (.success (.memoryOperation
        { byte := 0x91#8, addr := 0x1F1#9, sel := true, index := 1#4, action := 4#4, actionClass := .push,
          reg := .special 1#4 { name := "CNT", readable := true, writable := false }, consumed := 1 })), [6]) := by
  decide

/-- R237: REPEAT_COMPARE names the signed offset as the next rule (V20, byte 0x02; P2, call 2). -/
theorem test_v20_repeat_compare :
    seen (exec (.assignRepeatCompare false false false) (atBytes [0x02#8])) =
      some (some (.success (.assignment
        { byte := 0x02#8,
          fields := { push := false, math := false, family := 0#3, swap := false, mathop := 2#5, bit2 := false,
                      bit1 := true, size := 1#2 },
          isMath := false, op := .family { name := "REPEAT_COMPARE", operandRule := .signedOffset },
          next := .signedOffset, consumed := 1 })), [6]) := by
  decide

/-- R124's example, and an address below the window. -/
theorem test_reg_lookup :
    seen (serveCall (.regLookup .special 0x1F1#9) State.reset) =
      some (some (.success (.register (.special 1#4 { name := "CNT", readable := true, writable := false }))), []) ∧
    serveCall (.regLookup .special 0x1EF#9) State.reset = .refused .lookupOutsideWindow :=
  ⟨by decide, rfl⟩

/-- A step serves the call of the first sequence and puts that sequence behind the other. -/
theorem test_step_serves_in_turn :
    (match step (asked [[.call (.bytecode .word (some 0)), .resetBlock], [.resetBlock]] [1#8, 2#8]) with
      | .next t => some (t.cursors, t.sequences)
      | _ => none) = some ([7, 6], [[.resetBlock], [.resetBlock]]) := by decide

/-- R62, R343: two sequences that share a cursor are refused though only one has its call first, and though neither is
the first sequence. -/
theorem test_shared_cursor_of_any_pair_refused :
    step (asked [[.call (.bytecode .word (some 0)), .resetBlock], [.resetBlock, .call (.bytecode .word (some 0))]] []) =
      .refused .sharedCursor ∧
    step (asked [[.resetBlock], [.resetBlock, .call (.bytecode .word (some 1))], [.call (.bytecode .long (some 1))]] []) =
      .refused .sharedCursor := ⟨rfl, rfl⟩

/-- R51, R312: two sequences that name one handle of no open stream hold no cursor, and their calls end with
InvalidArgument (notes/assumptions/6.md). -/
theorem test_handle_of_no_stream_is_not_shared :
    seen (step (asked [[.call (.bytecode .word (some 2))], [.call (.bytecode .word (some 2))]] [1#8, 2#8])) =
      some (some .invalidArgument, [5, 6]) := by decide

/-- A word placed after reset is what the next step runs. -/
theorem test_withFetchWord_runs :
    verdict (step (State.reset.withFetchWord 32 0x84BC0001)) =
      some ("SUB", 0, [false, false, false, false, false], ["IF_ALWAYS"]) ∧
    seen (step (State.reset.withFetchWord 16 0x0201)) =
      some (some (.success (.value { value := 0x0102#32, consumed := 2, malformed := none })), [2]) :=
  ⟨by decide, by decide⟩

/-! ### Witnesses: the hypotheses of each statement are met -/

theorem test_witness_DecodingAnEncodingGivesItBack :
    WellFormed (.asmJmp { z := false, c := false, i := false, con := 0#4, dest := 0#9, src := 1#9 }) ∧
    WellFormed (.memopUnknownA7 true 15#4) := ⟨rfl, rfl⟩

theorem test_witness_BytesReadAreTheEncodingOfTheirInstruction :
    decodeBytes .long [1#8, 2#8, 3#8, 4#8, 5#8] = .ok (.operandLong 1#8 2#8 3#8 4#8, [5#8]) := rfl

theorem test_witness_OnlyTooShortBytesAreRejected :
    decodeBytes .long [1#8, 2#8, 3#8] = .error (.truncated 4) ∧ decodeBytes .word [] = .error (.truncated 2) := ⟨rfl, rfl⟩

theorem test_witness_PlacedWordsRunNext :
    decodeTableWord 8 0x26 = some (.assignPreIncLong false false) ∧
    decodeTableWord 16 0x0201 = some (.operandWord 1#8 2#8) ∧
    decodeTableWord 24 0x030201 = some (.operandNearLong 1#8 2#8 3#8) ∧
    (asked [[.call (.bytecode .word (some 1))]] []).sharesCursor = false ∧
    ((asked [[.call (.bytecode .word (some 1))]] []).withFetchWord 8 0x26).sharesCursor = false :=
  ⟨rfl, rfl, rfl, rfl, rfl⟩

/-- The highest and the lowest opcode. -/
theorem test_witness_OpcodeDeliversItsRecord :
    (∃ e, State.reset.tables.asm[(0xFFFFFFFF#32 : Opcode).toNat / 2 ^ 26]? = some e) ∧
    State.reset.tables.cond[(0xFFFFFFFF#32 : Opcode).toNat / 2 ^ 18 % 2 ^ 4]? = some ["IF_ALWAYS"] ∧
    (∃ e, State.reset.tables.asm[(0#32 : Opcode).toNat / 2 ^ 26]? = some e) ∧
    State.reset.tables.cond[(0#32 : Opcode).toNat / 2 ^ 18 % 2 ^ 4]? = some ["IF_NEVER"] :=
  ⟨⟨_, rfl⟩, rfl, ⟨_, rfl⟩, rfl⟩

theorem test_witness_ResolveSelectsByKind :
    State.reset.tables.asm[(23#6).toNat]? = some jumpEntry ∧ State.reset.tables.asm[(63#6).toNat]? = some (normalEntry "WAITVID") :=
  ⟨rfl, rfl⟩

theorem test_witness_NormalEntriesGiveTheirOneVariant :
    State.reset.tables.asm[(0x80000000#32 : Opcode).toNat / 2 ^ 26]? =
      some (.normal (variantOf "ADD" true true true true)) := rfl

/-- The SUB entry with bit 23 set and with it clear. -/
theorem test_witness_WrEntriesSelectByTheWriteResultBit :
    State.reset.tables.asm[(0x84BC0001#32 : Opcode).toNat / 2 ^ 26]? =
      some (.wr (variantOf "SUB" true true false true) (variantOf "CMP" true true false true)) ∧
    (0x84BC0001#32 : Opcode).getLsbD 23 = true ∧ (0x843C0001#32 : Opcode).getLsbD 23 = false := ⟨rfl, rfl, rfl⟩

theorem test_witness_HubEntrySelectsByTheLowSourceBits :
    tablesWf State.reset.tables = true ∧
    ∃ vs, State.reset.tables.asm[(0x0FFC01FF#32 : Opcode).toNat / 2 ^ 26]? = some (.hub vs) :=
  ⟨test_default_tables_wf, _, rfl⟩

/-- n = 0 and 1 with SRC 0, 1 and 511, n = 2 and n = 3. -/
theorem test_witness_JumpEntrySelectsByFlagsAndSource :
    tablesWf State.reset.tables = true ∧
    (∃ v0 v1 v2 v3, State.reset.tables.asm[(0x5C3C0001#32 : Opcode).toNat / 2 ^ 26]? = some (.jump v0 v1 v2 v3)) ∧
    [0x5C3C0000#32, 0x5C7C0000#32, 0x5C3C0001#32, 0x5C7C01FF#32, 0x5CBC0000#32, 0x5CFC01FF#32].map
      (fun op : Opcode => (op.toNat / 2 ^ 26, op.toNat / 2 ^ 22 % 4, op.toNat % 2 ^ 9)) =
      [(23, 0, 0), (23, 1, 0), (23, 0, 1), (23, 1, 511), (23, 2, 0), (23, 3, 511)] :=
  ⟨test_default_tables_wf, ⟨_, _, _, _, rfl⟩, by decide⟩

theorem test_witness_EveryOpcodeDeliversANamedVariant : tablesWf State.reset.tables = true := test_default_tables_wf

theorem test_witness_DecodingAnOpcodeTwiceGivesTheSameRecord :
    State.reset.tables = (asked [[.resetBlock]] [1#8]).tables := rfl

/-- Hub variants 7 and 8. -/
theorem test_witness_EveryVariantButHubEightIsReached :
    State.reset.tables.asm[(3#6).toNat]? = some hubEntry ∧
    (entryVariants hubEntry)[7]? = some (hubVariant "LOCKCLR") ∧
    (entryVariants hubEntry)[8]? = some (variantOf "HUBOP" true true true true) := ⟨rfl, rfl, rfl⟩

theorem test_witness_HubopIsHeldAndUnreachable :
    (∃ t d, exec (decodeAsm 0x0FFC01FF#32) State.reset = .next t ∧ t.outcome = some (.success (.instruction d)) ∧
      d.kind = .hub) ∧
    tablesWf defaultTables = true ∧ ∃ vs, AsmEntry.hub vs ∈ defaultTables.asm.toList :=
  ⟨⟨_, _, rfl, rfl, rfl⟩, test_default_tables_wf, _, List.mem_of_getElem? (i := 3) rfl⟩

/-- ADD with DEST and SRC in the special window and a register source. -/
theorem test_witness_SpecialOperandsCanBeLookedUp :
    (decodeRecord State.reset.tables 0x80BFE1FF#32).destIsSpecial = true ∧
    (decodeRecord State.reset.tables 0x80BFE1FF#32).srcIsSpecial = true := by decide

theorem test_witness_rows_of_opcodes :
    State.reset.tables = defaultTables ∧ (normalRowsLow ++ normalRowsHigh).length = 55 ∧ wrRows.length = 14 ∧
    hubRows.length = 8 ∧ opsW.src ≠ 0#9 := ⟨rfl, rfl, rfl, rfl, by decide⟩

theorem test_witness_MemopRowsDeliverTheirRecord :
    memopRows.length = 8 ∧ (atBytes [memopByte 7#3 true 15#4]).tables = defaultTables ∧
    StreamAt (atBytes [memopByte 7#3 true 15#4]) 0 5 [memopByte 7#3 true 15#4] := ⟨rfl, rfl, atBytes_streamAt _⟩

theorem test_witness_AssignmentRowsDeliverTheirRecord :
    writeRepeatRows.length = 2 ∧ normalFamilyRows.length = 6 ∧ sizeRows.length = 16 ∧
    StreamAt (atBytes [assignByte true 0#3 true true true]) 0 5 [assignByte true 0#3 true true true] ∧
    StreamAt (atBytes [assignByte true 3#3 true true true]) 0 5 [assignByte true 3#3 true true true] ∧
    StreamAt (atBytes [assignByte true 7#3 true true true]) 0 5 [assignByte true 7#3 true true true] :=
  ⟨rfl, rfl, rfl, atBytes_streamAt _, atBytes_streamAt _, atBytes_streamAt _⟩

theorem test_witness_MathRowsDeliverTheirRecord :
    (mathRows ++ mathSwapRows).length = 64 ∧ StreamAt (atBytes [mathByte true 63#6]) 0 5 [mathByte true 63#6] :=
  ⟨rfl, atBytes_streamAt _⟩

theorem test_witness_MathBytesSelectTheirEntry :
    (0xFF#8 : Byte).getLsbD 6 = true ∧ StreamAt (atBytes [0xFF#8]) 0 5 [0xFF#8] ∧
    ∃ e, (atBytes [0xFF#8]).tables.mathOps[(0xFF#8 : Byte).toNat % 64]? = some e :=
  ⟨rfl, atBytes_streamAt _, _, rfl⟩

/-- Byte 0x07 of the write-repeat family 0 and byte 0x9F of the normal family 3. -/
theorem test_witness_FamiliesSelectByBit1OrBit2 :
    StreamAt (atBytes [0x07#8]) 0 5 [0x07#8] ∧ (0x07#8 : Byte).getLsbD 6 = false ∧
    (∃ fam v, (atBytes [0x07#8]).tables.families[(0x07#8 : Byte).toNat / 8 % 8]? = some fam ∧ fam.rule = .writeRepeat ∧
      fam.variants[(0x07#8 : Byte).toNat / 2 % 2]? = some v) ∧
    StreamAt (atBytes [0x9F#8]) 0 5 [0x9F#8] ∧ (0x9F#8 : Byte).getLsbD 6 = false ∧
    ∃ fam v, (atBytes [0x9F#8]).tables.families[(0x9F#8 : Byte).toNat / 8 % 8]? = some fam ∧ fam.rule = .normal ∧
      fam.variants[(0x9F#8 : Byte).toNat / 4 % 2]? = some v :=
  ⟨atBytes_streamAt _, rfl, ⟨_, _, rfl, rfl, rfl⟩, atBytes_streamAt _, rfl, _, _, rfl, rfl, rfl⟩

/-- Byte 0xBF of the size family 7; and byte 0x2C where family 5 holds two variants (V22). -/
theorem test_witness_SizeFamiliesSelectBySizeAndGapsGiveNoVariant :
    StreamAt (atBytes [0xBF#8]) 0 5 [0xBF#8] ∧ (0xBF#8 : Byte).getLsbD 6 = false ∧
    (∃ fam v, (atBytes [0xBF#8]).tables.families[(0xBF#8 : Byte).toNat / 8 % 8]? = some fam ∧ fam.rule = .size ∧
      fam.variants[(0xBF#8 : Byte).toNat / 2 % 4]? = some v) ∧
    (0x2C#8 : Byte).getLsbD 6 = false ∧ StreamAt (atBytes [0x2C#8]) 0 5 [0x2C#8] ∧
    let gap : AssignFamily := { rule := .size, variants := [plainVariant "POST_INC_BIT", plainVariant "POST_INC_BYTE"] }
    (defaultFamilies.set 5 gap)[(0x2C#8 : Byte).toNat / 8 % 8]? = some gap ∧
      gap.variants.length ≤ (0x2C#8 : Byte).toNat / 2 % 4 :=
  ⟨atBytes_streamAt _, rfl, ⟨_, _, rfl, rfl, rfl⟩, rfl, atBytes_streamAt _, rfl, by decide⟩

theorem test_witness_PushIsOnlyReported :
    (0x40#8 : Byte).toNat % 128 = (0xC0#8 : Byte).toNat % 128 ∧ (atBytes [0x40#8]).tables = (atBytes [0xC0#8]).tables ∧
    StreamAt (atBytes [0x40#8]) 0 5 [0x40#8] ∧ StreamAt (atBytes [0xC0#8]) 0 5 [0xC0#8] :=
  ⟨rfl, rfl, atBytes_streamAt _, atBytes_streamAt _⟩

theorem test_witness_EveryAssignmentByteDecodes :
    familiesFull (atBytes [0x3F#8]).tables = true ∧ StreamAt (atBytes [0x3F#8]) 0 5 [0x3F#8] :=
  ⟨test_default_families_full, atBytes_streamAt _⟩

theorem test_witness_EveryMemoryOperationByteDecodes :
    StreamAt (atBytes [0xFF#8]) 0 5 [0xFF#8] ∧
    (∃ x, (atBytes [0xFF#8]).tables.special[(0xFF#8 : Byte).toNat % 16]? = some x) ∧
    (∃ y, (atBytes [0xFF#8]).tables.slots[(0xFF#8 : Byte).toNat % 16]? = some y) ∧
    (atBytes [0xFF#8]).tables.memopClass[(0xFF#8 : Byte).toNat / 32]? = some .unknown :=
  ⟨atBytes_streamAt _, ⟨_, rfl⟩, ⟨_, rfl⟩, rfl⟩

theorem test_witness_MemopRegisterIsTheLookupAtItsAddress :
    (atBytes [0x80#8]).tables.memopRegBase = 0x1E0#9 ∧ StreamAt (atBytes [0x80#8]) 0 5 [0x80#8] :=
  ⟨rfl, atBytes_streamAt _⟩

/-- The streams of `DeliversValue` and `CallExhausts`, and the first bytes on both sides of each boundary. -/
theorem test_witness_operand_values :
    StreamAt (atBytes [0xC0#8, 0xFF#8]) 0 5 [0xC0#8, 0xFF#8] ∧
    ((atBytes [0xC0#8]).cursors[0]? = some 5 ∧ BytesAt (atBytes [0xC0#8]) 5 [0xC0#8] ∧
      Memory.read (atBytes [0xC0#8]).image (5 + [0xC0#8].length) = none) ∧
    (0x3F#8 : Byte).toNat < 64 ∧ (0x7F#8 : Byte).toNat < 128 ∧ 128 ≤ (0x80#8 : Byte).toNat ∧
    (0xBF#8 : Byte).toNat < 192 ∧ 192 ≤ (0xC0#8 : Byte).toNat ∧ 0x80 ≤ (0x80#8 : Byte).toNat ∧
    (0x7F#8 : Byte).getLsbD 7 = false ∧ (0x80#8 : Byte).getLsbD 7 = true :=
  ⟨atBytes_streamAt _, ⟨rfl, (atBytes_streamAt _).2.2, (atBytes_streamEnds _).2⟩, by decide⟩

theorem test_witness_AbsentHandlesGiveInvalidArgument :
    encode (.operandLong 1#8 2#8 3#8 4#8) = some (.stream .long [1#8, 2#8, 3#8, 4#8]) ∧ State.reset.handle = none :=
  ⟨rfl, rfl⟩

theorem test_witness_StreamExhaustedExactlyOnShortStreams :
    TooShort .signedOffset [0x80#8] ∧ TooShort .long [1#8, 2#8, 3#8] ∧ TooShort .assignment [] ∧
    (atBytes [0x80#8]).cursors[0]? = some 5 ∧
    ∃ t, serveCall (.bytecode .signedOffset (some 0)) (atBytes [0x80#8]) = .next t ∧
      t.outcome = some (.streamExhausted 1) :=
  ⟨.inr (.inl ⟨.inl rfl, _, rfl, rfl⟩), .inr (.inr (.inr (.inr ⟨rfl, by decide⟩))), .inl rfl, rfl, _, rfl, rfl⟩

theorem test_witness_EveryInstructionCompletesAndKeepsItsFrame : WellFormed (.operandLong 1#8 2#8 3#8 4#8) := rfl

theorem test_witness_CallsStartAfresh : ∃ t, serveCall (.condLookup 15#4) State.reset = .next t := ⟨_, rfl⟩

/-- Both windows at their ends. -/
theorem test_witness_RegisterLookupInsideItsWindow :
    (∃ r, State.reset.tables.special[(0x1F0#9).toNat - 0x1F0]? = some r) ∧
    (∃ r, State.reset.tables.special[(0x1FF#9).toNat - 0x1F0]? = some r) ∧
    State.reset.tables.memopRegBase.toNat ≤ (0x1E0#9).toNat ∧
    (0x1EF#9).toNat ≤ State.reset.tables.memopRegBase.toNat + 15 ∧
    (∃ r, State.reset.tables.slots[(0x1E0#9).toNat - State.reset.tables.memopRegBase.toNat]? = some r) ∧
    ∃ r, State.reset.tables.slots[(0x1EF#9).toNat - State.reset.tables.memopRegBase.toNat]? = some r :=
  ⟨⟨_, rfl⟩, ⟨_, rfl⟩, by decide, by decide, ⟨_, rfl⟩, _, rfl⟩

theorem test_witness_RegisterLookupOutsideItsWindowIsRefused :
    (0x1EF#9).toNat < 0x1F0 ∧ (0x1DF#9).toNat < State.reset.tables.memopRegBase.toNat ∧
    State.reset.tables.memopRegBase.toNat + 15 < (0x1F0#9).toNat := by decide

theorem test_witness_ConditionLookupDeliversTheWholeList :
    State.reset.tables.cond[(0#4).toNat]? = some ["IF_NEVER"] ∧
    State.reset.tables.cond[(14#4).toNat]? = some ["IF_C_OR_Z", "IF_Z_OR_C", "IF_BE"] ∧
    State.reset.tables.cond[(15#4).toNat]? = some ["IF_ALWAYS"] ∧ tablesWf State.reset.tables = true :=
  ⟨rfl, rfl, rfl, test_default_tables_wf⟩

theorem test_witness_ImageWritesAreSeenByLaterCalls :
    Memory.wf (atBytes [1#8]).image = true ∧ (atBytes [1#8]).cursors[0]? = some 5 := ⟨rfl, rfl⟩

theorem test_witness_StepRunsTheDecodedInstruction :
    (asked [[.call (.assembly 0#32)]] []).sequences = [[.call (.assembly 0#32)]] ∧
    (asked [[.call (.assembly 0#32)]] []).sharesCursor = false ∧
    (asked [[.call (.bytecode .word (some 0))], [.call (.bytecode .word (some 1))]] [1#8, 2#8]).sharesCursor = false ∧
    (asked [[.call (.bytecode .word (some 0))], [.call (.bytecode .word (some 1))]] [1#8, 2#8]).cursors[0]? = some 5 ∧
    decodeBytes .word (Memory.peek (asked [] [1#8, 2#8]).image 5 4) = .ok (.operandWord 1#8 2#8, []) :=
  ⟨rfl, rfl, rfl, rfl, rfl⟩

/-- Two sequences that name one open stream, and a step that moves a cursor in company. -/
theorem test_witness_SharedCursorsAreRefused :
    (asked [[.call (.bytecode .word (some 0))], [.call (.bytecode .long (some 0))]] []).sharesCursor = true ∧
    ∃ t, step (asked [[.call (.bytecode .word (some 0))], [.call (.bytecode .word (some 1))]] [1#8, 2#8]) = .next t ∧
      t.cursors[0]? ≠ some 5 := ⟨rfl, _, rfl, by decide⟩

/-- A state that keeps the contract, and the two ways to break it. -/
theorem test_witness_StepsCompleteExactlyUnderTheContract :
    CallerContract (asked [[.call (.regLookup .special 0x1F0#9)]] []) ∧
    ¬ CallerContract (asked [[.call (.regLookup .special 0x1EF#9)]] []) ∧
    ¬ CallerContract (asked [[.call (.bytecode .word (some 0))], [.call (.bytecode .long (some 0))]] []) :=
  ⟨⟨rfl, rfl⟩, fun h => Bool.noConfusion (h.2 : false = true), fun h => Bool.noConfusion (h.1 : true = false)⟩

/-- A state that meets the invariant and steps. -/
theorem test_witness_EveryStepKeepsTheInvariant :
    Inv (asked [[.call (.bytecode .word (some 0))]] [1#8, 2#8]) ∧
    ∃ t, step (asked [[.call (.bytecode .word (some 0))]] [1#8, 2#8]) = .next t :=
  ⟨⟨⟨rfl, rfl, rfl⟩, rfl, test_default_tables_wf⟩, _, rfl⟩

theorem test_witness_NoStepWritesATable :
    (∃ t, step (asked [[.resetBlock]] []) = .next t) ∧ ∃ t, serve (.openStream 3) State.reset = .next t :=
  ⟨⟨_, rfl⟩, _, rfl⟩

theorem test_witness_CallsOnDifferentCursorsCommute :
    (∀ h, requestHandle (.call (.bytecode .word (some 0))) = some h →
      requestHandle (.call (.bytecode .word (some 1))) ≠ some h) ∧
    (∃ t, serveCall (.bytecode .word (some 0)) (asked [] [1#8, 2#8, 3#8]) = .next t) ∧
    ∃ t, serveCall (.bytecode .word (some 1)) (asked [] [1#8, 2#8, 3#8]) = .next t :=
  ⟨fun h e => by cases e; decide, ⟨_, rfl⟩, _, rfl⟩

theorem test_witness_OtherRequestsAreServedInTurn :
    State.reset.sequences = [] ∧ (asked [[], [.resetBlock]] []).sequences = [] :: [[.resetBlock]] ∧
    (asked [[.resetBlock]] []).sequences = (.resetBlock :: []) :: [] ∧ requestHandle .resetBlock = none :=
  ⟨rfl, rfl, rfl, rfl⟩

end Sys2Proof.Tests
end

/-! ### The tables are constant (R22)

A served call ends the block and moves at most one cursor; every other update of the state leaves the tables alone. -/

namespace Sys2Proof.Machine

/-- How a call leaves the machine: an outcome is handed over, at most one cursor has moved, and nothing else of the state
differs (R318, R58). -/
def CallEnds (s t : State) : Prop := ∃ o, t = ended o s ∨ ∃ h p, t = endedAt o h p s

theorem CallEnds.tables_eq {s t : State} (h : CallEnds s t) : t.tables = s.tables := by
  obtain ⟨o, rfl | ⟨_, _, rfl⟩⟩ := h <;> rfl

theorem callEnds_deliver (o : CallOutcome) (s : State) : CallEnds s (s.deliver o) := ⟨o, .inl rfl⟩

/-- Presenting a handle is undone when the call ends. -/
theorem CallEnds.of_present {handle : Option Nat} {s t : State} (h : CallEnds (s.present handle) t) : CallEnds s t := h

theorem streamCall_callEnds {n : Nat} {finish : Nat → CallOutcome} {s t : State}
    (h : streamCall n finish s = .next t) : CallEnds s t := by
  obtain ⟨_, hs⟩ | ⟨_, _, _, _, _, _, _, hs⟩ := streamCall_cases n finish s
  · cases hs.symm.trans h
    exact callEnds_deliver _ s
  · cases hs.symm.trans h
    exact ⟨_, .inr ⟨_, _, rfl⟩⟩

theorem exec_callEnds {i : Instr} {s t : State} (h : exec i s = .next t) : CallEnds s t := by
  obtain ⟨_, hrefused⟩ | ⟨op, _, hasm⟩ | ⟨_, bs, finish, _, hstream⟩ := exec_cases i
  · cases (hrefused s).symm.trans h
  · cases ((hasm s).trans (decodeAssembly_eq op s)).symm.trans h
    exact callEnds_deliver _ s
  · exact streamCall_callEnds ((hstream s).symm.trans h)

/-- Ending exhausted at a present cursor is the bytecode call that delivers StreamExhausted whatever it pulls. -/
theorem streamCall_streamExhausted {s : State} {p : Nat} (n : Nat) (h : s.cursor? = some p) :
    streamCall n .streamExhausted s = .next (endExhausted n s) := by
  simp only [streamCall, endExhausted, h]
  cases readBytes n s.beginOperation <;> rfl

/-- Where no instruction stands at the cursor, the call has ended (R219, R312). -/
theorem fetch_stop_callEnds {e : ByteEntry} {s t : State} (h : fetch e s = .stop t) : CallEnds s t := by
  unfold fetch at h
  split at h
  case h_1 =>
    cases h
    exact callEnds_deliver _ s
  case h_2 p hcursor =>
    split at h
    · cases h
    · cases h
      exact streamCall_callEnds (streamCall_streamExhausted _ hcursor)

/-- Every entry point ends its call so, where it gives a next state. -/
theorem serveCall_callEnds {c : Call} {s t : State} (h : serveCall c s = .next t) : CallEnds s t := by
  cases c with
  | assembly op => exact exec_callEnds h
  | bytecode e handle =>
    simp only [serveCall] at h
    split at h
    · exact (exec_callEnds h).of_present
    · rename_i hstop
      cases h
      exact (fetch_stop_callEnds hstop).of_present
  | resolve instr zcri src =>
    cases h
    exact callEnds_deliver _ s
  | condLookup con =>
    cases h
    exact callEnds_deliver _ s
  | regLookup table addr =>
    simp only [serveCall, callRegLookup] at h
    split at h
    · cases h
      exact callEnds_deliver _ s
    · cases h

/-- No request writes a table (R22). -/
theorem serve_tables {q : Request} {s t : State} (h : serve q s = .next t) : t.tables = s.tables := by
  cases q with
  | call c => exact (serveCall_callEnds h).tables_eq
  | writeImage a b =>
    cases h
    exact s.writeImage_tables a b
  | openStream start =>
    cases h
    exact s.openStream_tables start
  | resetBlock =>
    cases h
    exact s.blockReset_tables

/-- No step writes a table (R22). -/
theorem step_tables {s t : State} (h : step s = .next t) : t.tables = s.tables := by
  obtain ⟨_, ⟨_, rfl⟩ | ⟨others, _, rfl⟩ | ⟨q, later, others, _, hserve⟩⟩ := step_cases s t h
  · rfl
  · exact s.withSequences_tables others
  · exact (serve_tables hserve).trans (s.withSequences_tables _)

end Sys2Proof.Machine

namespace Sys2Proof

/-- Settles O57: a request ends a call, or is an update that leaves the tables alone. -/
theorem noStepWritesATable : Obligations.NoStepWritesATable :=
  ⟨fun _ _ => Machine.step_tables, fun _ _ _ => Machine.serve_tables⟩

end Sys2Proof

/-! ### The opcode a row was decoded from

`exec` gets the row, not the opcode; the row's encoding gives the opcode back (R72, R85), so the call of a decoded row is
the assembly call of its opcode. -/

namespace Sys2Proof

theorem fullWord_fullOps {op : Opcode} {n : BitVec 6} (hn : instrOf op = n) : fullWord n (fullOps op) = op := by
  subst hn
  exact asmWord_of_fields op

theorem fixedRWord_fixedROps {op : Opcode} {n : BitVec 6} {r : Bool} (hn : instrOf op = n) (hr : rOf op = r) :
    fixedRWord n r (fixedROps op) = op := by
  subst hn hr
  exact asmWord_of_fields op

/-- SRC is its two parts in a Hub row: SRC[8:3] and SRC[2:0] (R114). -/
theorem srcOf_eq_append (op : Opcode) : (field op 3 6 ++ field op 0 3 : RegAddr) = srcOf op := by
  refine BitVec.eq_of_getLsbD_eq fun k hk => ?_
  simp only [srcOf, field, BitVec.getLsbD_append, BitVec.getLsbD_extractLsb', hk]
  split_ifs with hlow
  · simp [hlow]
  · have hhigh : k - 3 < 6 ∧ 3 + (k - 3) = k := by omega
    simp [hhigh]

theorem hubWord_hubOps {op : Opcode} {n : BitVec 6} {sub : BitVec 3} (hn : instrOf op = n) (hsub : field op 0 3 = sub) :
    hubWord n sub (hubOps op) = op := by
  subst hn hsub
  exact (congrArg _ (srcOf_eq_append op)).trans (asmWord_of_fields op)

theorem retWord_retOps {op : Opcode} {n : BitVec 6} (hn : instrOf op = n) (hr : rOf op = false) (hsrc : srcOf op = 0#9) :
    retWord n (retOps op) = op := by
  have h := asmWord_of_fields op
  rwa [hn, hr, hsrc] at h

theorem linkWord_linkOps {op : Opcode} {n : BitVec 6} {i : Bool} (hn : instrOf op = n) (hr : rOf op = true)
    (hi : iOf op = i) : linkWord n i (linkOps op) = op := by
  have h := asmWord_of_fields op
  rwa [hn, hr, hi] at h

/-- A Normal row encodes to the opcode whose fields it took. -/
theorem encode_normal {op : Opcode} {n : BitVec 6} {row : Instr} (hn : instrOf op = n)
    (hrow : encode row = some (.opcode (fullWord n (fullOps op)))) : encode row = some (.opcode op) := by
  rw [hrow, fullWord_fullOps hn]

theorem encode_decodeWr {op : Opcode} {n : BitVec 6} {writing other : FixedROps → Instr} (hn : instrOf op = n)
    (hwriting : ∀ o, encode (writing o) = some (.opcode (fixedRWord n true o)))
    (hother : ∀ o, encode (other o) = some (.opcode (fixedRWord n false o))) :
    encode (decodeWr writing other op) = some (.opcode op) := by
  unfold decodeWr
  split
  · next hr => rw [hwriting, fixedRWord_fixedROps hn hr]
  · next hr => rw [hother, fixedRWord_fixedROps hn (by simpa using hr)]

theorem encode_decodeHub {op : Opcode} (hn : instrOf op = 3#6) : encode (decodeHub op) = some (.opcode op) := by
  have hsub : field op 0 3 = BitVec.ofNat 3 (field op 0 3).toNat := by simp
  have hlt := (field op 0 3).isLt
  unfold decodeHub
  generalize (field op 0 3).toNat = k at hsub hlt
  interval_cases k <;> exact congrArg (some ∘ Encoding.opcode) (hubWord_hubOps hn hsub)

theorem encode_decodeJump {op : Opcode} (hn : instrOf op = 23#6) : encode (decodeJump op) = some (.opcode op) := by
  unfold decodeJump
  split
  · next hr =>
    split
    · next hi => exact congrArg (some ∘ Encoding.opcode) (linkWord_linkOps hn hr hi)
    · next hi => exact congrArg (some ∘ Encoding.opcode) (linkWord_linkOps hn hr (by simpa using hi))
  · next hr =>
    have hr : rOf op = false := by simpa using hr
    split
    · next hsrc => exact congrArg (some ∘ Encoding.opcode) (retWord_retOps hn hr hsrc)
    · exact congrArg (some ∘ Encoding.opcode) (fixedRWord_fixedROps hn hr)

/-- Every opcode is the encoding of the row it decodes to (R85): by INSTR, the row is a Normal one, one of a WR pair, a
Hub row or a Jump row. -/
theorem encode_decodeAsm (op : Opcode) : encode (decodeAsm op) = some (.opcode op) := by
  have hn : instrOf op = BitVec.ofNat 6 (instrOf op).toNat := by simp
  have hlt := (instrOf op).isLt
  unfold decodeAsm
  generalize (instrOf op).toNat = n at hn hlt
  interval_cases n <;> first
    | exact encode_normal hn rfl
    | exact encode_decodeWr hn (fun _ => rfl) (fun _ => rfl)
    | exact encode_decodeHub hn
    | exact encode_decodeJump hn

end Sys2Proof

/-! ### Fields and flags as numbers (R9, R71, R72) -/

namespace Sys2Proof

theorem field_eq_ofNat (op : Opcode) (lo w : Nat) : field op lo w = BitVec.ofNat w (op.toNat / 2 ^ lo) := by
  rw [field, BitVec.extractLsb', Nat.shiftRight_eq_div_pow]

theorem field_toNat (op : Opcode) (lo w : Nat) : (field op lo w).toNat = op.toNat / 2 ^ lo % 2 ^ w := by
  rw [field_eq_ofNat, BitVec.toNat_ofNat]

theorem srcOf_eq_ofNat (op : Opcode) : srcOf op = BitVec.ofNat 9 op.toNat := by
  rw [srcOf, field_eq_ofNat, Nat.pow_zero, Nat.div_one]

/-- INSTR is the top field, so its number needs no reduction. -/
theorem instrOf_toNat (op : Opcode) : (instrOf op).toNat = op.toNat / 2 ^ 26 := by
  have hlt := op.isLt
  rw [instrOf, field_toNat]
  omega

theorem getLsbD_zcriOf {op : Opcode} {k : Nat} (hk : k < 4) : (zcriOf op).getLsbD k = op.getLsbD (22 + k) := by
  simp [zcriOf, field, hk]

theorem zOf_eq_getLsbD (op : Opcode) : zOf op = op.getLsbD 25 := getLsbD_zcriOf (by decide)
theorem cOf_eq_getLsbD (op : Opcode) : cOf op = op.getLsbD 24 := getLsbD_zcriOf (by decide)
theorem rOf_eq_getLsbD (op : Opcode) : rOf op = op.getLsbD 23 := getLsbD_zcriOf (by decide)
theorem iOf_eq_getLsbD (op : Opcode) : iOf op = op.getLsbD 22 := getLsbD_zcriOf (by decide)

theorem getLsbD_eq_beq_one (op : Opcode) (k : Nat) : op.getLsbD k = (op.toNat / 2 ^ k % 2 == 1) :=
  Nat.testBit_eq_decide_div_mod_eq

theorem not_mod_two_beq_one (n : Nat) : (!(n % 2 == 1)) = (n % 2 == 0) := by
  rw [Bool.eq_iff_iff, Bool.not_eq_true', beq_eq_false_iff_ne, beq_iff_eq]
  omega

end Sys2Proof

/-! ### The tables at an index (R118, R120, R124) -/

namespace Sys2Proof.Machine

theorem asmEntry_of_getElem? {t : Tables} {instr : BitVec 6} {e : AsmEntry} (h : t.asm[instr.toNat]? = some e) :
    asmEntry t instr = e := (Vector.getElem?_eq_some_iff.1 h).2

theorem condSynonyms_of_getElem? {t : Tables} {con : BitVec 4} {synonyms : List String}
    (h : t.cond[con.toNat]? = some synonyms) : condSynonyms t con = synonyms := (Vector.getElem?_eq_some_iff.1 h).2

theorem specialEntry_of_getElem? {t : Tables} {index : BitVec 4} {r : SpecialReg}
    (h : t.special[index.toNat]? = some r) : specialEntry t index = .special index r :=
  congrArg (RegisterEntry.special index) (Vector.getElem?_eq_some_iff.1 h).2

theorem slotEntry_of_getElem? {t : Tables} {index : BitVec 4} {r : SlotReg}
    (h : t.slots[index.toNat]? = some r) : slotEntry t index = .slot index r :=
  congrArg (RegisterEntry.slot index) (Vector.getElem?_eq_some_iff.1 h).2

/-- Every INSTR has an entry (R118). -/
theorem asmEntry_mem (t : Tables) (instr : BitVec 6) : asmEntry t instr ∈ t.asm.toList :=
  Vector.mem_toList_iff.2 (Vector.getElem_mem _)

end Sys2Proof.Machine

/-! ### Selection, one rule per kind (R111 to R116) -/

namespace Sys2Proof.Machine

@[simp] theorem select_normal (zcri : BitVec 4) (src : RegAddr) : select .normal zcri src = 0 := rfl

@[simp] theorem select_wr (zcri : BitVec 4) (src : RegAddr) :
    select .wr zcri src = if zcri.getLsbD 1 then 0 else 1 := rfl

theorem select_hub_val (zcri : BitVec 4) (src : RegAddr) : (select .hub zcri src).val = src.toNat % 8 := by
  simp [select]

/-- `n = zcri[1:0]` decides, and SRC only where `n` is at most 1 (R116). -/
theorem select_jump_val (zcri : BitVec 4) (src : RegAddr) :
    (select .jump zcri src).val =
      if zcri.toNat % 4 ≤ 1 then (if src = 0#9 then 1 else 0) else zcri.toNat % 4 := by
  have hn : (zcri.extractLsb' 0 2).toNat = zcri.toNat % 4 := by simp
  simp only [select, hn]
  split_ifs <;> rfl

/-- `n` of R116 is opcode bits 23:22. -/
theorem select_jump_of_opcode_val (op : Opcode) :
    (select .jump (zcriOf op) (srcOf op)).val =
      if op.toNat / 2 ^ 22 % 4 ≤ 1 then (if op.toNat % 2 ^ 9 = 0 then 1 else 0) else op.toNat / 2 ^ 22 % 4 := by
  have hn : (zcriOf op).toNat % 4 = op.toNat / 2 ^ 22 % 4 := by
    rw [zcriOf, field_toNat]
    omega
  have hsrc : srcOf op = 0#9 ↔ op.toNat % 2 ^ 9 = 0 := by
    rw [← BitVec.toNat_inj, srcOf_eq_ofNat, BitVec.toNat_ofNat]
    rfl
  simp only [select_jump_val, hn, hsrc]

/-- The write-result bit as a number (R113). -/
theorem writeResultBit_iff (zcri : BitVec 4) : zcri.getLsbD 1 = true ↔ zcri.toNat / 2 % 2 = 1 := by
  revert zcri
  decide

end Sys2Proof.Machine

/-! ### The call of an assembly opcode (R130, R131) -/

namespace Sys2Proof.Machine

/-- The call of a decoded opcode delivers the opcode's record and changes nothing else: of the three meanings an
instruction can have, only the assembly call has an opcode for its encoding. -/
theorem exec_decodeAsm (op : Opcode) (s : State) :
    exec (decodeAsm op) s = .next (ended (.success (.instruction (decodeRecord s.tables op))) s) := by
  have henc := encode_decodeAsm op
  obtain ⟨hhubop, _⟩ | ⟨op', hasm, hexec⟩ | ⟨_, _, _, hstream, _⟩ := exec_cases (decodeAsm op)
  · rw [hhubop] at henc
    cases henc
  · cases henc.symm.trans hasm
    exact (hexec s).trans (decodeAssembly_eq op s)
  · cases henc.symm.trans hstream

/-- The record's variant is one of the entry's, at the record's index (R111). -/
theorem decodeRecord_variant (t : Tables) (op : Opcode) :
    (entryVariants (asmEntry t (instrOf op)))[(decodeRecord t op).variantIndex.val]? =
      some (decodeRecord t op).variant := entryVariant_select _ _ _

/-- What an opcode's call delivers where the entry is known: its kind, the selected index and the variant there. -/
theorem exec_decodeAsm_of_entry {op : Opcode} {s : State} {e : AsmEntry} (k : Kind) (hkind : entryKind e = k)
    (h : s.tables.asm[op.toNat / 2 ^ 26]? = some e) :
    ∃ d, exec (decodeAsm op) s = .next (ended (.success (.instruction d)) s) ∧ d.kind = k ∧
      d.variantIndex = select k (zcriOf op) (srcOf op) ∧ (entryVariants e)[d.variantIndex.val]? = some d.variant := by
  rw [← instrOf_toNat] at h
  have he := asmEntry_of_getElem? h
  subst he hkind
  exact ⟨_, exec_decodeAsm op s, rfl, rfl, decodeRecord_variant _ _⟩

/-- A record whose variant is the entry's at its index has, where that index is `k`, the variant there. -/
theorem index_and_variant {d : DecodedInstruction} {e : AsmEntry} {k : Fin 9} {v : Variant}
    (hvariant : (entryVariants e)[d.variantIndex.val]? = some d.variant) (hidx : d.variantIndex = k)
    (hv : (entryVariants e)[k.val]? = some v) : d.variantIndex = k ∧ d.variant = v := by
  rw [hidx, hv] at hvariant
  exact ⟨hidx, (Option.some.inj hvariant).symm⟩

end Sys2Proof.Machine

/-! ### What well-formed tables say of their entries (R23, R116, R140) -/

namespace Sys2Proof.Machine

/-- Every entry has named variants, the Jump attributes, and the source's names where it is the Hub or the Jump entry. -/
theorem entry_constraints {t : Tables} {e : AsmEntry} (hwf : tablesWf t = true) (he : e ∈ t.asm.toList) :
    namesPresent e = true ∧ jumpAttrs e = true ∧
      (entryKind e = .hub → (entryVariants e).map (·.name) = hubNames) ∧
      (entryKind e = .jump → (entryVariants e).map (·.name) = ["JMP", "RET", "JMPRET", "CALL"]) := by
  simp only [tablesWf, asmWf, Bool.and_eq_true, List.all_eq_true, beq_iff_eq, and_assoc] at hwf
  obtain ⟨hnames, hattrs, _, _, _, hhub, hjump, _⟩ := hwf
  have hmem : (entryVariants e).map (·.name) ∈ kindNames (entryKind e) t.asm.toList :=
    List.mem_map.2 ⟨e, List.mem_filter.2 ⟨he, beq_self_eq_true _⟩, rfl⟩
  refine ⟨hnames e he, hattrs e he, fun hk => ?_, fun hk => ?_⟩
  · simpa [hk, hhub] using hmem
  · simpa [hk, hjump] using hmem

theorem mem_asm_of_getElem? {t : Tables} {n : Nat} {e : AsmEntry} (h : t.asm[n]? = some e) : e ∈ t.asm.toList :=
  Vector.mem_toList_iff.2 (Vector.mem_of_getElem? h)

/-- The variants of the Hub entry carry the source's names in order (R114). -/
theorem hub_name {t : Tables} {n k : Nat} {vs : Vector Variant 9} {v : Variant} (hwf : tablesWf t = true)
    (he : t.asm[n]? = some (.hub vs)) (hv : vs[k]? = some v) : hubNames[k]? = some v.name := by
  obtain ⟨_, _, hhub, _⟩ := entry_constraints hwf (mem_asm_of_getElem? he)
  rw [← hhub rfl, List.getElem?_map, entryVariants, Vector.getElem?_toList, hv]
  rfl

/-- The four Jump variants: their names, JMP with a register or literal source only, RET without operands (R116). -/
theorem jump_constraints {t : Tables} {n : Nat} {v0 v1 v2 v3 : Variant} (hwf : tablesWf t = true)
    (he : t.asm[n]? = some (.jump v0 v1 v2 v3)) :
    (v0.name = "JMP" ∧ v0.hasDest = false ∧ v0.hasSrc = true ∧ v0.srcLiteral = true) ∧
      (v1.name = "RET" ∧ v1.hasDest = false ∧ v1.hasSrc = false) ∧ v2.name = "JMPRET" ∧ v3.name = "CALL" := by
  obtain ⟨_, hattrs, _, hjump⟩ := entry_constraints hwf (mem_asm_of_getElem? he)
  have hnames := hjump rfl
  simp only [entryVariants, List.map_cons, List.map_nil, List.cons.injEq, and_true] at hnames
  obtain ⟨h0, h1, h2, h3⟩ := hnames
  simp only [jumpAttrs, Bool.and_eq_true, Bool.not_eq_true'] at hattrs
  obtain ⟨⟨⟨⟨hdest0, hsrc0⟩, hlit0⟩, hdest1⟩, hsrc1⟩ := hattrs
  exact ⟨⟨h0, hdest0, hsrc0, hlit0⟩, ⟨h1, hdest1, hsrc1⟩, h2, h3⟩

/-- A variant of an entry has a name (R23). -/
theorem variant_name_ne_empty {t : Tables} {e : AsmEntry} {k : Nat} {v : Variant} (hwf : tablesWf t = true)
    (he : e ∈ t.asm.toList) (hv : (entryVariants e)[k]? = some v) : v.name ≠ "" := by
  obtain ⟨hnames, _⟩ := entry_constraints hwf he
  have := List.all_eq_true.1 hnames v (List.mem_of_getElem? hv)
  simpa using this

end Sys2Proof.Machine

/-! ### Register lookups (R124) -/

namespace Sys2Proof.Machine

theorem inWindow_iff (t : Tables) (table : RegTable) (addr : RegAddr) :
    inWindow t table addr = true ↔
      (windowBase t table).toNat ≤ addr.toNat ∧ addr.toNat ≤ (windowBase t table).toNat + 15 := by
  simp only [inWindow, Bool.and_eq_true, decide_eq_true_eq]

/-- The offset of an address in a window is the address less the base, without wrapping. -/
theorem setWidth_sub_toNat {base addr : RegAddr} (hlow : base.toNat ≤ addr.toNat) (hhigh : addr.toNat ≤ base.toNat + 15) :
    ((addr - base).setWidth 4).toNat = addr.toNat - base.toNat := by
  rw [BitVec.toNat_setWidth, BitVec.toNat_sub_of_le (BitVec.le_def.2 hlow)]
  omega

theorem setWidth_sub_eq_ofNat {base addr : RegAddr} (hlow : base.toNat ≤ addr.toNat)
    (hhigh : addr.toNat ≤ base.toNat + 15) : (addr - base).setWidth 4 = BitVec.ofNat 4 (addr.toNat - base.toNat) := by
  rw [← setWidth_sub_toNat hlow hhigh, BitVec.ofNat_toNat, BitVec.setWidth_eq]

/-- A lookup that has a result delivers it and changes nothing else (R124). -/
theorem serveCall_regLookup_of_some {s : State} {table : RegTable} {addr : RegAddr} {r : RegisterEntry}
    (h : regLookup s.tables table addr = some r) :
    serveCall (.regLookup table addr) s = .next (ended (.success (.register r)) s) := by
  simp only [serveCall, callRegLookup, h]
  rfl

theorem regLookup_special {t : Tables} {addr : RegAddr} {r : SpecialReg} (hlow : Config.specialBase.toNat ≤ addr.toNat)
    (hhigh : addr.toNat ≤ Config.specialBase.toNat + 15)
    (hr : t.special[addr.toNat - Config.specialBase.toNat]? = some r) :
    regLookup t .special addr = some (.special (BitVec.ofNat 4 (addr.toNat - Config.specialBase.toNat)) r) := by
  rw [← setWidth_sub_toNat hlow hhigh] at hr
  rw [regLookup, if_pos ((inWindow_iff t .special addr).2 ⟨hlow, hhigh⟩), ← setWidth_sub_eq_ofNat hlow hhigh]
  exact congrArg some (specialEntry_of_getElem? hr)

theorem regLookup_slot {t : Tables} {addr : RegAddr} {r : SlotReg} (hlow : t.memopRegBase.toNat ≤ addr.toNat)
    (hhigh : addr.toNat ≤ t.memopRegBase.toNat + 15) (hr : t.slots[addr.toNat - t.memopRegBase.toNat]? = some r) :
    regLookup t .slot addr = some (.slot (BitVec.ofNat 4 (addr.toNat - t.memopRegBase.toNat)) r) := by
  rw [← setWidth_sub_toNat hlow hhigh] at hr
  rw [regLookup, if_pos ((inWindow_iff t .slot addr).2 ⟨hlow, hhigh⟩), ← setWidth_sub_eq_ofNat hlow hhigh]
  exact congrArg some (slotEntry_of_getElem? hr)

end Sys2Proof.Machine

/-! ### The statements -/

namespace Sys2Proof

open Machine

/-- Settles O9: the call delivers `decodeRecord`, whose fields are the opcode's at their places. -/
theorem opcodeDeliversItsRecord : Obligations.OpcodeDeliversItsRecord := by
  intro op s e synonyms he hcond
  rw [← instrOf_toNat] at he
  rw [← field_toNat op 18 4] at hcond
  have hentry := asmEntry_of_getElem? he
  have hsynonyms := condSynonyms_of_getElem? hcond
  simp only [instrOf, field_eq_ofNat] at hentry hsynonyms
  refine ⟨(resolve s.tables _ _ _).1, (resolve s.tables _ _ _).2, rfl, (exec_decodeAsm op s).trans ?_⟩
  simp only [decodeRecord, wzEff, wcEff, wrEff, nrEff, immEff, zOf_eq_getLsbD, cOf_eq_getLsbD, rOf_eq_getLsbD,
    iOf_eq_getLsbD, getLsbD_eq_beq_one, not_mod_two_beq_one, srcOf_eq_ofNat, instrOf, zcriOf, conOf, destOf,
    field_eq_ofNat, hentry, hsynonyms]

/-- Settles O10, by the kind of the entry. -/
theorem resolveSelectsByKind : Obligations.ResolveSelectsByKind := by
  intro instr zcri src s e he
  have hentry := asmEntry_of_getElem? he
  subst hentry
  refine ⟨select (entryKind (asmEntry s.tables instr)) zcri src, _, rfl, entryVariant_select _ zcri src, ?_⟩
  cases entryKind (asmEntry s.tables instr) with
  | normal => rfl
  | wr =>
    simp only [select_wr, writeResultBit_iff]
    split_ifs <;> rfl
  | hub => exact select_hub_val zcri src
  | jump => exact select_jump_val zcri src

/-- Settles O11: a Normal entry selects index 0. -/
theorem normalEntriesGiveTheirOneVariant : Obligations.NormalEntriesGiveTheirOneVariant := by
  intro op s v he
  obtain ⟨d, hexec, hkind, hidx, hvariant⟩ := exec_decodeAsm_of_entry .normal rfl he
  rw [select_normal] at hidx
  exact ⟨d, hexec, hkind, index_and_variant hvariant hidx rfl⟩

/-- Settles O12: a WR entry selects by `zcri[1]`, opcode bit 23. -/
theorem wrEntriesSelectByTheWriteResultBit : Obligations.WrEntriesSelectByTheWriteResultBit := by
  intro op s v0 v1 he
  obtain ⟨d, hexec, hkind, hidx, hvariant⟩ := exec_decodeAsm_of_entry .wr rfl he
  rw [select_wr, getLsbD_zcriOf (by decide)] at hidx
  exact ⟨d, hexec, hkind,
    fun hset => index_and_variant hvariant (hidx.trans (if_pos hset)) rfl,
    fun hclear => index_and_variant hvariant (hidx.trans (if_neg (Bool.eq_false_iff.1 hclear))) rfl⟩

/-- Settles O13: the Hub entry selects by SRC[2:0], so never the ninth name. -/
theorem hubEntrySelectsByTheLowSourceBits : Obligations.HubEntrySelectsByTheLowSourceBits := by
  intro op s vs hwf he
  obtain ⟨d, hexec, hkind, hidx, hvariant⟩ := exec_decodeAsm_of_entry .hub rfl he
  have hval : d.variantIndex.val = op.toNat % 8 := by
    rw [hidx, select_hub_val, srcOf_eq_ofNat, BitVec.toNat_ofNat]
    omega
  rw [hval, entryVariants, Vector.getElem?_toList] at hvariant
  refine ⟨d, hexec, hkind, hval, hvariant, ?_⟩
  rw [← hub_name hwf he hvariant]
  exact (List.getElem?_append_left (l₂ := ["HUBOP"]) (Nat.mod_lt _ (by decide))).symm

/-- Settles O14, by the four clauses of the Jump entry. -/
theorem jumpEntrySelectsByFlagsAndSource : Obligations.JumpEntrySelectsByFlagsAndSource := by
  intro op s v0 v1 v2 v3 hwf he
  obtain ⟨d, hexec, hkind, hidx, hvariant⟩ := exec_decodeAsm_of_entry .jump rfl he
  obtain ⟨hjmp, hret, hjmpret, hcall⟩ := jump_constraints hwf he
  have hval := select_jump_of_opcode_val op
  rw [← hidx] at hval
  refine ⟨d, hexec, hkind, fun hn hsrc => ?_, fun hn hsrc => ?_, fun hn => ?_, fun hn => ?_⟩
  · rw [if_pos hn, if_neg hsrc] at hval
    obtain ⟨hi, hv⟩ := index_and_variant hvariant (k := 0) (Fin.ext hval) rfl
    exact ⟨hi, hv, hjmp⟩
  · rw [if_pos hn, if_pos hsrc] at hval
    obtain ⟨hi, hv⟩ := index_and_variant hvariant (k := 1) (Fin.ext hval) rfl
    exact ⟨hi, hv, hret⟩
  · rw [hn, if_neg (by decide)] at hval
    obtain ⟨hi, hv⟩ := index_and_variant hvariant (k := 2) (Fin.ext hval) rfl
    exact ⟨hi, hv, hjmpret⟩
  · rw [hn, if_neg (by decide)] at hval
    obtain ⟨hi, hv⟩ := index_and_variant hvariant (k := 3) (Fin.ext hval) rfl
    exact ⟨hi, hv, hcall⟩

/-- Settles O15: the record's predicates are those of its own variant. -/
theorem derivedPredicatesFollowTheVariant : Obligations.DerivedPredicatesFollowTheVariant := by
  intro op s
  refine ⟨_, exec_decodeAsm op s, ?_⟩
  simp only [decodeRecord, wzEff, wcEff, wrEff, nrEff, immEff, zOf_eq_getLsbD, cOf_eq_getLsbD, rOf_eq_getLsbD,
    iOf_eq_getLsbD, Bool.and_eq_true, Bool.not_eq_true', true_and]
  refine ⟨fun ⟨⟨hset, _⟩, hclear, _⟩ => ?_, fun hr => ?_⟩
  · exact Bool.noConfusion (hset.symm.trans hclear)
  · simp only [hr, Bool.and_false, and_self]

/-- Settles O16: the resolved variant is one of the entry's, and those have names. -/
theorem everyOpcodeDeliversANamedVariant : Obligations.EveryOpcodeDeliversANamedVariant := fun op s hwf =>
  ⟨_, exec_decodeAsm op s, variant_name_ne_empty hwf (asmEntry_mem _ _) (decodeRecord_variant _ op)⟩

/-- Settles O17: the record is a function of the opcode and the tables. -/
theorem decodingAnOpcodeTwiceGivesTheSameRecord : Obligations.DecodingAnOpcodeTwiceGivesTheSameRecord := by
  intro op s s' ht
  refine ⟨decodeRecord s.tables op, _, exec_decodeAsm op s, rfl, exec_decodeAsm op _, ?_⟩
  rw [ht]
  exact exec_decodeAsm op s'

/-- Settles O48, table by table. -/
theorem registerLookupInsideItsWindow : Obligations.RegisterLookupInsideItsWindow :=
  ⟨fun _ _ _ hlow hhigh hr => serveCall_regLookup_of_some (regLookup_special hlow hhigh hr),
    fun _ _ _ hlow hhigh hr => serveCall_regLookup_of_some (regLookup_slot hlow hhigh hr)⟩

end Sys2Proof

/-! ### A call on a stream that holds its bytes (R50, R58) -/

namespace Sys2Proof.Machine

/-- Where the bytes `bs` stand, they are what a read of that many bytes finds. -/
theorem peek_of_bytesAt {s : State} {p : Nat} {bs : List Byte} (h : BytesAt s p bs) :
    Memory.peek s.image p bs.length = bs := by
  induction bs generalizing p with
  | nil => rfl
  | cons b bs ih =>
    have hhead : Memory.read s.image p = some b := h 0 b rfl
    have htail : BytesAt s (p + 1) bs := fun k c hc => by
      rw [Nat.add_right_comm]
      exact h (k + 1) c hc
    rw [List.length_cons, Memory.peek_succ_some _ _ _ _ hhead, ih htail]

/-- A bytecode call that finds all its bytes ends with its result, those bytes consumed. -/
theorem streamCall_of_streamAt {s : State} {h p : Nat} {bs : List Byte} (finish : Nat → CallOutcome)
    (hat : StreamAt s h p bs) :
    streamCall bs.length finish s = .next (endedAt (finish bs.length) h (p + bs.length) s) := by
  obtain ⟨hhandle, hcursor, hbytes⟩ := hat
  have hcall := streamCall_present bs.length finish s h p hhandle hcursor
  simp only [peek_of_bytesAt hbytes, if_true] at hcall
  exact hcall

end Sys2Proof.Machine

/-! ### The packed literal (R213, R214) -/

namespace Sys2Proof

open Machine

/-- Bit 7 is the top bit of a byte. -/
theorem byte_getLsbD_seven (b : Byte) : b.getLsbD 7 = decide (0x80 ≤ b.toNat) := BitVec.msb_eq_decide b

/-- A byte with its top bit set is malformed, its low bits kept only to be encoded again (R214). -/
theorem decodePackedLiteralByte_of_top {b : Byte} (h : b.getLsbD 7 = true) :
    decodePackedLiteralByte b = .operandPackedLiteralMalformed (b.extractLsb' 0 7) := if_pos h

theorem exec_operandPackedLiteralMalformed (low : BitVec 7) (s : State) :
    exec (.operandPackedLiteralMalformed low) s = streamCall 1 (literalOutcome malformedSentinel true) s := rfl

/-- Settles O40: bit 7 makes the byte malformed, and the call on its one byte succeeds with the sentinel. -/
theorem malformedPackedLiteralGivesTheSentinel : Obligations.MalformedPackedLiteralGivesTheSentinel := by
  intro b0 hb0
  have htop : b0.getLsbD 7 = true := (byte_getLsbD_seven b0).trans (decide_eq_true hb0)
  refine ⟨fun rest => ?_, fun s h p hat => ?_⟩
  · rw [decodeBytes, decodePackedLiteralByte_of_top htop]
  · exact (exec_operandPackedLiteralMalformed _ s).trans (streamCall_of_streamAt _ hat)

end Sys2Proof

/-! ### The families of an assignment byte (R233 to R235) -/

namespace Sys2Proof

/-- A byte with b[6] = 0 is the assignment byte of its fields: they and b[0] cover it (R231). -/
theorem assignByte_of_fields : ∀ b : Byte, b.getLsbD 6 = false →
    assignByte (b.getLsbD 7) (b.extractLsb' 3 3) (b.getLsbD 2) (b.getLsbD 1) (b.getLsbD 0) = b := by decide

theorem byte_getLsbD_toNat (b : Byte) (k : Nat) : (b.getLsbD k).toNat = b.toNat / 2 ^ k % 2 :=
  Nat.toNat_testBit b.toNat k

end Sys2Proof

namespace Sys2Proof.Machine

/-- Every row of the family path pulls the byte it was decoded from: by the family, then by the bits that may select. -/
theorem exec_decodeFamilyByte {b : Byte} (hmath : b.getLsbD 6 = false) (s : State) :
    exec (decodeFamilyByte b) s = decodeAssignment b s := by
  have hbyte := assignByte_of_fields b hmath
  have hfamily : b.extractLsb' 3 3 = BitVec.ofNat 3 (b.extractLsb' 3 3).toNat := by
    rw [BitVec.ofNat_toNat, BitVec.setWidth_eq]
  have hlt := (b.extractLsb' 3 3).isLt
  rw [hfamily] at hbyte
  unfold decodeFamilyByte
  generalize (b.extractLsb' 3 3).toNat = family at hbyte hlt
  generalize b.getLsbD 2 = bit2, b.getLsbD 1 = bit1 at hbyte
  interval_cases family <;> cases bit2 <;> cases bit1 <;> exact congrArg (decodeAssignment · s) hbyte

/-- The call of a byte with b[6] = 0, whatever the tables hold (R230). -/
theorem exec_decodeAssignByte_of_family {b : Byte} (hmath : b.getLsbD 6 = false) (s : State) :
    exec (decodeAssignByte b) s = streamCall 1 (assignmentOutcome s.tables b) s := by
  rw [decodeAssignByte, hmath]
  exact exec_decodeFamilyByte hmath s

/-- The family number is b[5:3] (R233). -/
theorem assignFields_family_toNat (b : Byte) : (assignFields b).family.toNat = b.toNat / 8 % 8 := by
  simp [assignFields, BitVec.extractLsb'_toNat, Nat.shiftRight_eq_div_pow]

theorem familyOf_of_getElem? {t : Tables} {b : Byte} {fam : AssignFamily}
    (h : t.families[b.toNat / 8 % 8]? = some fam) : familyOf t b = fam := by
  rw [← assignFields_family_toNat] at h
  exact (Vector.getElem?_eq_some_iff.1 h).2

/-- A write-repeat family selects by b[1] (R234). -/
theorem familyIndex_writeRepeat (b : Byte) : familyIndex .writeRepeat (assignFields b) = b.toNat / 2 % 2 :=
  byte_getLsbD_toNat b 1

/-- A normal family selects by b[2] (R235). -/
theorem familyIndex_normal (b : Byte) : familyIndex .normal (assignFields b) = b.toNat / 4 % 2 :=
  byte_getLsbD_toNat b 2

/-- A family byte ends with the variant its family holds at the index of its rule (R233, R237). -/
theorem assignmentOutcome_of_variant {t : Tables} {b : Byte} {v : AssignVariant} (hmath : b.getLsbD 6 = false)
    (hv : (familyOf t b).variants[familyIndex (familyOf t b).rule (assignFields b)]? = some v) (consumed : Nat) :
    assignmentOutcome t b consumed = .success (.assignment
      { byte := b, fields := assignFields b, isMath := false, op := .family v, next := v.operandRule,
        consumed := consumed }) := by
  have hpath : (assignFields b).math = false := hmath
  simp [assignmentOutcome, hpath, hv]

end Sys2Proof.Machine

namespace Sys2Proof

open Machine

/-- Settles O31: the family's rule reads its index from b[1] or from b[2], and the call pulls the one byte. -/
theorem familiesSelectByBit1OrBit2 : Obligations.FamiliesSelectByBit1OrBit2 := by
  intro b s h p fam v hmath hat hfam hselect
  have hindex : fam.variants[familyIndex fam.rule (assignFields b)]? = some v := by
    obtain ⟨hrule, hv⟩ | ⟨hrule, hv⟩ := hselect
    · rwa [hrule, familyIndex_writeRepeat]
    · rwa [hrule, familyIndex_normal]
  rw [← familyOf_of_getElem? hfam] at hindex
  rw [exec_decodeAssignByte_of_family hmath, ← assignmentOutcome_of_variant hmath hindex]
  exact streamCall_of_streamAt _ hat

end Sys2Proof

/-! ### A call without a stream handle (R220, R312, R317) -/

namespace Sys2Proof.Machine

/-- A call that presents no handle has no cursor. -/
theorem State.cursor?_of_handle_none {s : State} (h : s.handle = none) : s.cursor? = none := by
  rw [State.cursor?, h]

/-- Without a cursor the call has ended before a byte is looked at (R317). -/
theorem fetch_absent (e : ByteEntry) {s : State} (h : s.cursor? = none) :
    fetch e s = .stop (s.deliver .invalidArgument) := by
  rw [fetch, h]

/-- An instruction of a bytecode entry point means the call that pulls the bytes of its encoding. -/
theorem exec_of_encode_stream {i : Instr} {e : ByteEntry} {bs : List Byte} (henc : encode i = some (.stream e bs)) :
    ∃ finish : Tables → Nat → CallOutcome, ∀ s, exec i s = streamCall bs.length (finish s.tables) s := by
  obtain ⟨rfl, _⟩ | ⟨_, hasm, _⟩ | ⟨_, _, finish, hstream, hexec⟩ := exec_cases i
  · cases henc
  · cases henc.symm.trans hasm
  · cases henc.symm.trans hstream
    exact ⟨finish, hexec⟩

/-- A bytecode call of any entry point without a handle ends at its fetch (R312). -/
theorem serveCall_bytecode_none (e : ByteEntry) (s : State) :
    serveCall (.bytecode e none) s = .next (ended .invalidArgument s) := by
  have hcursor : (s.present none).cursor? = none := State.cursor?_of_handle_none rfl
  simp only [serveCall, fetch_absent e hcursor]
  rfl

/-- A bytecode instruction run without a handle pulls none of its bytes (R220). -/
theorem exec_stream_of_handle_none {i : Instr} {e : ByteEntry} {bs : List Byte} {s : State}
    (henc : encode i = some (.stream e bs)) (h : s.handle = none) : exec i s = .next (ended .invalidArgument s) := by
  obtain ⟨finish, hexec⟩ := exec_of_encode_stream henc
  exact (hexec s).trans (streamCall_absent _ _ s (State.cursor?_of_handle_none h))

end Sys2Proof.Machine

namespace Sys2Proof

open Machine

/-- Settles O44: the handle check comes first at the fetch and in every bytecode meaning; the assembly call has no
handle and delivers its record. -/
theorem absentHandlesGiveInvalidArgument : Obligations.AbsentHandlesGiveInvalidArgument :=
  ⟨serveCall_bytecode_none, fun _ _ _ _ => exec_stream_of_handle_none,
    fun op s => ⟨_, exec_decodeAsm op s, CallOutcome.noConfusion⟩⟩

end Sys2Proof

/-! ### The invariant (R20, R22, R28, R29)

A call leaves the block idle and touches neither image nor tables; of the other requests only a write changes the image,
and it keeps the canonical form. -/

namespace Sys2Proof.Machine

theorem CallEnds.blockIdle {s t : State} (h : CallEnds s t) : BlockIdle t := by
  obtain ⟨o, rfl | ⟨_, _, rfl⟩⟩ := h <;> exact ⟨rfl, rfl, rfl⟩

theorem CallEnds.image_eq {s t : State} (h : CallEnds s t) : t.image = s.image := by
  obtain ⟨o, rfl | ⟨_, _, rfl⟩⟩ := h <;> rfl

theorem CallEnds.inv {s t : State} (h : CallEnds s t) (hs : Inv s) : Inv t := by
  obtain ⟨_, himage, htables⟩ := hs
  exact ⟨h.blockIdle, by rwa [h.image_eq], by rwa [h.tables_eq]⟩

/-- Every request keeps the invariant. -/
theorem serve_inv {q : Request} {s t : State} (h : serve q s = .next t) (hs : Inv s) : Inv t := by
  cases q with
  | call c => exact (serveCall_callEnds h).inv hs
  | writeImage a b =>
    cases h
    obtain ⟨hidle, himage, htables⟩ := hs
    exact ⟨hidle, Memory.write_wf _ a b himage, htables⟩
  | openStream start =>
    cases h
    exact hs
  | resetBlock =>
    cases h
    obtain ⟨_, himage, htables⟩ := hs
    exact ⟨⟨rfl, rfl, rfl⟩, himage, htables⟩

/-- The default tables meet the constraints of the spec, table by table. -/
theorem tablesWf_defaultTables : tablesWf defaultTables = true := by
  have hasm : asmWf defaultTables = true := by decide
  have hcond : condWf defaultTables = true := by decide
  have hfamilies : familiesWf defaultTables = true := by decide
  have hmath : mathOpsWf defaultTables = true := by decide
  have hmemop : memopWf defaultTables = true := by decide
  rw [tablesWf, hasm, hcond, hfamilies, hmath, hmemop]
  rfl

end Sys2Proof.Machine

namespace Sys2Proof

open Machine

/-- Settles O56: a step that completes idles, drops a sequence, or serves a request, and the requests to serve are no
part of the invariant. -/
theorem everyStepKeepsTheInvariant : Obligations.EveryStepKeepsTheInvariant := by
  intro s t hs hstep
  obtain ⟨_, ⟨_, rfl⟩ | ⟨others, _, rfl⟩ | ⟨q, later, others, _, hserve⟩⟩ := step_cases s t hstep
  · exact hs
  · exact hs
  · exact serve_inv hserve hs

/-- Settles O55. -/
theorem resetMeetsTheInvariant : Obligations.ResetMeetsTheInvariant :=
  ⟨⟨rfl, rfl, rfl⟩, rfl, tablesWf_defaultTables⟩

end Sys2Proof

/-! ### Decoding what was encoded

One rule per format: a row that the fields of its format select is read back, with its operands, from the word or the
byte the format makes of them. -/

namespace Sys2Proof

/-- The instruction has an encoding, and the decoder reads the instruction back from it with nothing left over. -/
def RoundTrips (i : Instr) : Prop := ∃ enc, encode i = some enc ∧ decode enc = .ok (i, [])

theorem RoundTrips.of_opcode {i : Instr} {op : Opcode} (henc : encode i = some (.opcode op)) (hdec : decodeAsm op = i) :
    RoundTrips i := ⟨_, henc, by rw [decode, hdec]⟩

theorem RoundTrips.of_stream {i : Instr} {e : ByteEntry} {bs : List Byte} (henc : encode i = some (.stream e bs))
    (hdec : decodeBytes e bs = .ok (i, [])) : RoundTrips i := ⟨_, henc, by rw [decode, hdec]⟩

theorem fullOps_fullWord (n : BitVec 6) (o : FullOps) : fullOps (fullWord n o) = o := by
  simp [fullOps, fullWord]

theorem fixedROps_fixedRWord (n : BitVec 6) (r : Bool) (o : FixedROps) : fixedROps (fixedRWord n r o) = o := by
  simp [fixedROps, fixedRWord]

theorem retOps_retWord (n : BitVec 6) (o : RetOps) : retOps (retWord n o) = o := by
  simp [retOps, retWord]

theorem linkOps_linkWord (n : BitVec 6) (i : Bool) (o : LinkOps) : linkOps (linkWord n i o) = o := by
  simp [linkOps, linkWord]

/-- The two parts of SRC in a Hub word are the ones it was made of (R114). -/
theorem hubWord_src_parts (n : BitVec 6) (sub : BitVec 3) (o : HubOps) :
    field (hubWord n sub o) 3 6 = o.srcHi ∧ field (hubWord n sub o) 0 3 = sub := by
  have h : field (hubWord n sub o) 3 6 ++ field (hubWord n sub o) 0 3 = (o.srcHi ++ sub : RegAddr) :=
    (srcOf_eq_append _).trans (srcOf_asmWord ..)
  have hhi := congrArg (BitVec.extractLsb' 3 6) h
  have hlo := congrArg (BitVec.extractLsb' 0 3) h
  simp only [BitVec.extractLsb'_append_eq_left, BitVec.extractLsb'_append_eq_right] at hhi hlo
  exact ⟨hhi, hlo⟩

theorem hubOps_hubWord (n : BitVec 6) (sub : BitVec 3) (o : HubOps) : hubOps (hubWord n sub o) = o := by
  obtain ⟨hhi, _⟩ := hubWord_src_parts n sub o
  simp only [hubOps, hhi]
  simp [hubWord]

theorem roundTrips_full {n : BitVec 6} {row : FullOps → Instr} {o : FullOps}
    (henc : encode (row o) = some (.opcode (fullWord n o)))
    (hdec : ∀ op, instrOf op = n → decodeAsm op = row (fullOps op)) : RoundTrips (row o) :=
  .of_opcode henc (by rw [hdec (fullWord n o) (instrOf_asmWord ..), fullOps_fullWord])

theorem roundTrips_fixedR {n : BitVec 6} {r : Bool} {row : FixedROps → Instr} {o : FixedROps}
    (henc : encode (row o) = some (.opcode (fixedRWord n r o)))
    (hdec : ∀ op, instrOf op = n → rOf op = r → srcOf op = o.src → decodeAsm op = row (fixedROps op)) :
    RoundTrips (row o) :=
  .of_opcode henc (by
    rw [hdec (fixedRWord n r o) (instrOf_asmWord ..) (rOf_asmWord ..) (srcOf_asmWord ..), fixedROps_fixedRWord])

theorem roundTrips_hub {sub : BitVec 3} {row : HubOps → Instr} {o : HubOps}
    (henc : encode (row o) = some (.opcode (hubWord 3#6 sub o)))
    (hdec : ∀ op, instrOf op = 3#6 → field op 0 3 = sub → decodeAsm op = row (hubOps op)) : RoundTrips (row o) :=
  .of_opcode henc (by
    rw [hdec (hubWord 3#6 sub o) (instrOf_asmWord ..) (hubWord_src_parts _ _ _).2, hubOps_hubWord])

/-- An entry of a WR pair decodes to the writing row when R is set, else to the other (R113). -/
theorem decodeWr_eq {r : Bool} {writing other : FixedROps → Instr} {op : Opcode} (hr : rOf op = r) :
    decodeWr writing other op = cond r (writing (fixedROps op)) (other (fixedROps op)) := by
  subst hr
  unfold decodeWr
  cases rOf op <;> rfl

/-- The Jump entry decodes by R, then by I or by SRC (R116). -/
theorem decodeJump_eq {r i : Bool} {op : Opcode} (hr : rOf op = r) (hi : iOf op = i) :
    decodeJump op = bif r then (bif i then .asmCall (linkOps op) else .asmJmpret (linkOps op))
      else if srcOf op = 0#9 then .asmRet (retOps op) else .asmJmp (fixedROps op) := by
  subst hr hi
  unfold decodeJump
  cases rOf op <;> cases iOf op <;> rfl

theorem decodeAsm_of_instrOf_23 {op : Opcode} (h : instrOf op = 23#6) : decodeAsm op = decodeJump op := by
  unfold decodeAsm
  rw [h]
  rfl

theorem roundTrips_jmp (o : FixedROps) (hsrc : o.src ≠ 0#9) : RoundTrips (.asmJmp o) :=
  roundTrips_fixedR rfl fun op hn hr ho => by
    rw [decodeAsm_of_instrOf_23 hn, decodeJump_eq hr rfl, ho]
    exact if_neg hsrc

theorem roundTrips_ret (o : RetOps) : RoundTrips (.asmRet o) :=
  .of_opcode rfl (by
    rw [decodeAsm_of_instrOf_23 (op := retWord 23#6 o) (instrOf_asmWord ..),
      decodeJump_eq (op := retWord 23#6 o) (rOf_asmWord ..) rfl, retOps_retWord]
    exact if_pos (srcOf_asmWord ..))

theorem roundTrips_jmpret (o : LinkOps) : RoundTrips (.asmJmpret o) :=
  .of_opcode rfl (by
    rw [decodeAsm_of_instrOf_23 (op := linkWord 23#6 false o) (instrOf_asmWord ..),
      decodeJump_eq (op := linkWord 23#6 false o) (rOf_asmWord ..) (iOf_asmWord ..), linkOps_linkWord]
    rfl)

theorem roundTrips_call (o : LinkOps) : RoundTrips (.asmCall o) :=
  .of_opcode rfl (by
    rw [decodeAsm_of_instrOf_23 (op := linkWord 23#6 true o) (instrOf_asmWord ..),
      decodeJump_eq (op := linkWord 23#6 true o) (rOf_asmWord ..) (iOf_asmWord ..), linkOps_linkWord]
    rfl)

theorem roundTrips_memop {a : BitVec 3} {row : Bool → BitVec 4 → Instr} {sel : Bool} {index : BitVec 4}
    (henc : encode (row sel index) = some (.stream .memoryOperation [memopByte a sel index]))
    (hdec : ∀ b : Byte, b.extractLsb' 5 3 = a → decodeMemopByte b = row (b.getLsbD 4) (b.extractLsb' 0 4)) :
    RoundTrips (row sel index) :=
  .of_stream henc (by
    obtain ⟨ha, hsel, hindex⟩ := memopByte_fields a sel index
    rw [decodeBytes, hdec _ ha, hsel, hindex])

theorem roundTrips_math {n : BitVec 6} {row : Bool → Instr} {push : Bool}
    (henc : encode (row push) = some (.stream .assignment [mathByte push n]))
    (hdec : ∀ b : Byte, b.extractLsb' 0 6 = n → decodeMathByte b = row (b.getLsbD 7)) : RoundTrips (row push) :=
  .of_stream henc (by
    obtain ⟨hpush, hmath, hn⟩ := mathByte_fields push n
    rw [decodeBytes, decodeAssignByte, if_pos hmath, hdec _ hn, hpush])

/-- A family byte gives the row its family and its two selecting bits choose, with the bits left free (R233). -/
theorem roundTrips_family {i : Instr} {push bit2 bit1 bit0 : Bool} {f : BitVec 3}
    (henc : encode i = some (.stream .assignment [assignByte push f bit2 bit1 bit0]))
    (hdec : ∀ b : Byte, b.extractLsb' 3 3 = f → b.getLsbD 7 = push → b.getLsbD 2 = bit2 → b.getLsbD 1 = bit1 →
      b.getLsbD 0 = bit0 → decodeFamilyByte b = i) : RoundTrips i :=
  .of_stream henc (by
    obtain ⟨hpush, hmath, hf, h2, h1, h0⟩ := assignByte_fields push f bit2 bit1 bit0
    rw [decodeBytes, decodeAssignByte, hmath, if_neg Bool.false_ne_true, hdec _ hf hpush h2 h1 h0])

/-- An offset form of one byte (R80). -/
theorem decodeOffset_short (short : BitVec 7 → Instr) (long : BitVec 7 → Byte → Instr) {b0 : Byte}
    (h : b0.getLsbD 7 = false) (rest : List Byte) :
    decodeOffset short long (b0 :: rest) = .ok (short (b0.extractLsb' 0 7), rest) := by
  simp only [decodeOffset.eq_def, h, Bool.false_eq_true, if_false]

/-- An offset form of two bytes (R80). -/
theorem decodeOffset_long (short : BitVec 7 → Instr) (long : BitVec 7 → Byte → Instr) {b0 : Byte}
    (h : b0.getLsbD 7 = true) (b1 : Byte) (rest : List Byte) :
    decodeOffset short long (b0 :: b1 :: rest) = .ok (long (b0.extractLsb' 0 7) b1, rest) := by
  simp only [decodeOffset.eq_def, h, if_true]

theorem decodeOffset_offsetByte_short (short : BitVec 7 → Instr) (long : BitVec 7 → Byte → Instr) (v : BitVec 7) :
    decodeOffset short long [offsetByte false v] = .ok (short v, []) := by
  obtain ⟨hlong, hv⟩ := offsetByte_fields false v
  rw [decodeOffset_short _ _ hlong, hv]

theorem decodeOffset_offsetByte_long (short : BitVec 7 → Instr) (long : BitVec 7 → Byte → Instr) (hi : BitVec 7)
    (lo : Byte) : decodeOffset short long [offsetByte true hi, lo] = .ok (long hi lo, []) := by
  obtain ⟨hlong, hv⟩ := offsetByte_fields true hi
  rw [decodeOffset_long _ _ hlong, hv]

theorem roundTrips_packedLiteral (complement decrement : Bool) (exponent : BitVec 5) :
    RoundTrips (.operandPackedLiteral complement decrement exponent) :=
  .of_stream rfl (by
    obtain ⟨hvalid, hc, hd, he⟩ := packedLiteralByte_fields complement decrement exponent
    rw [decodeBytes, decodePackedLiteralByte, hvalid, hc, hd, he]
    rfl)

theorem roundTrips_packedLiteralMalformed (low : BitVec 7) : RoundTrips (.operandPackedLiteralMalformed low) :=
  .of_stream rfl (by
    obtain ⟨htop, hlow⟩ := offsetByte_fields true low
    rw [decodeBytes, decodePackedLiteralByte_of_top htop, hlow])

theorem roundTrips_of_wellFormed {i : Instr} (hwf : WellFormed i) : RoundTrips i := by
  cases i
  case asmHubop => cases hwf
  case asmJmp o => exact roundTrips_jmp o (by simpa [WellFormed, Instr.wellFormed] using hwf)
  case asmRet o => exact roundTrips_ret o
  case asmJmpret o => exact roundTrips_jmpret o
  case asmCall o => exact roundTrips_call o
  case operandPackedLiteral complement decrement exponent =>
    exact roundTrips_packedLiteral complement decrement exponent
  case operandPackedLiteralMalformed low => exact roundTrips_packedLiteralMalformed low
  case operandSignedOffset1 v =>
    exact .of_stream rfl (decodeOffset_offsetByte_short _ .operandSignedOffset2 v)
  case operandSignedPackedOffset1 v =>
    exact .of_stream rfl (decodeOffset_offsetByte_short _ .operandSignedPackedOffset2 v)
  case operandPackedOffset1 v =>
    exact .of_stream rfl (decodeOffset_offsetByte_short _ .operandPackedOffset2 v)
  case operandSignedOffset2 hi lo =>
    exact .of_stream rfl (decodeOffset_offsetByte_long .operandSignedOffset1 _ hi lo)
  case operandSignedPackedOffset2 hi lo =>
    exact .of_stream rfl (decodeOffset_offsetByte_long .operandSignedPackedOffset1 _ hi lo)
  case operandPackedOffset2 hi lo =>
    exact .of_stream rfl (decodeOffset_offsetByte_long .operandPackedOffset1 _ hi lo)
  case operandWord | operandNearLong | operandLong => exact .of_stream rfl rfl
  case asmMul | asmMuls | asmEnc | asmOnes | asmRor | asmRol | asmShr | asmShl | asmRcr | asmRcl | asmSar | asmRev |
      asmMins | asmMaxs | asmMin | asmMax | asmMovs | asmMovd | asmMovi | asmOr | asmXor | asmMuxc | asmMuxnc |
      asmMuxz | asmMuxnz | asmAdd | asmAddabs | asmSubabs | asmSumc | asmSumnc | asmSumz | asmSumnz | asmMov |
      asmNeg | asmAbs | asmAbsneg | asmNegc | asmNegnc | asmNegz | asmNegnz | asmCmps | asmCmpsx | asmAddx | asmAdds |
      asmSubs | asmAddsx | asmSubsx | asmCmpsub | asmDjnz | asmTjnz | asmTjz | asmWaitpeq | asmWaitpne | asmWaitcnt |
      asmWaitvid =>
    exact roundTrips_full rfl fun op hn => by unfold decodeAsm; rw [hn]; rfl
  case asmRdbyte | asmWrbyte | asmRdword | asmWrword | asmRdlong | asmWrlong | asmAnd | asmTest | asmAndn | asmTestn |
      asmSub | asmCmp | asmSubx | asmCmpx =>
    exact roundTrips_fixedR rfl fun op hn hr _ => by unfold decodeAsm; rw [hn]; exact decodeWr_eq hr
  case asmClkset | asmCogid | asmCoginit | asmCogstop | asmLocknew | asmLockret | asmLockset | asmLockclr =>
    exact roundTrips_hub rfl fun op hn hsub => by unfold decodeAsm; rw [hn]; unfold decodeHub; rw [hsub]; rfl
  case memopUnknownA0 | memopUnknownA1 | memopUnknownA2 | memopUnknownA3 | memopPushA4 | memopPopA5 | memopEffectA6 |
      memopUnknownA7 =>
    exact roundTrips_memop rfl fun b ha => by unfold decodeMemopByte; rw [ha]; rfl
  case mathRor | mathRol | mathShr | mathShl | mathMin | mathMax | mathNeg | mathBitNot | mathAnd | mathAbs | mathOr |
      mathXor | mathAdd | mathSub | mathSar | mathRev | mathLogAnd | mathEncode | mathLogOr | mathDecode | mathMul |
      mathMulHi | mathDiv | mathMod | mathSqrt | mathLt | mathGt | mathNe | mathEq | mathLe | mathGe | mathLogNot |
      mathRorSwap | mathRolSwap | mathShrSwap | mathShlSwap | mathMinSwap | mathMaxSwap | mathNegSwap |
      mathBitNotSwap | mathAndSwap | mathAbsSwap | mathOrSwap | mathXorSwap | mathAddSwap | mathSubSwap |
      mathSarSwap | mathRevSwap | mathLogAndSwap | mathEncodeSwap | mathLogOrSwap | mathDecodeSwap | mathMulSwap |
      mathMulHiSwap | mathDivSwap | mathModSwap | mathSqrtSwap | mathLtSwap | mathGtSwap | mathNeSwap | mathEqSwap |
      mathLeSwap | mathGeSwap | mathLogNotSwap =>
    exact roundTrips_math rfl fun b hn => by unfold decodeMathByte; rw [hn]; rfl
  case assignWrite | assignRepeatCompare | assignRandomForward | assignRandomReverse | assignSignExtendByte |
      assignSignExtendWord | assignPostClear | assignPostSet | assignPreIncBit | assignPreIncByte | assignPreIncWord |
      assignPreIncLong | assignPostIncBit | assignPostIncByte | assignPostIncWord | assignPostIncLong |
      assignPreDecBit | assignPreDecByte | assignPreDecWord | assignPreDecLong | assignPostDecBit |
      assignPostDecByte | assignPostDecWord | assignPostDecLong =>
    exact roundTrips_family rfl fun b hf hpush h2 h1 h0 => by
      unfold decodeFamilyByte; rw [hf, hpush, h2, h1, h0]; rfl

/-- Settles O2, by the format of the instruction's row. -/
theorem decodingAnEncodingGivesItBack : Obligations.DecodingAnEncodingGivesItBack := fun _ => roundTrips_of_wellFormed

end Sys2Proof

/-! ### What a decoder reads is the encoding of its instruction (R82, R85)

The converse of the round trip: the input is made of the fields that the decoder took from it. -/

namespace Sys2Proof

open Machine

/-- HUBOP and a JMP to 0 are the only terms that are no instruction (R86, R116). -/
theorem wellFormed_iff (i : Instr) : WellFormed i ↔ i ≠ .asmHubop ∧ ∀ o, i = .asmJmp o → o.src ≠ 0#9 := by
  cases i <;> simp [WellFormed, Instr.wellFormed]

theorem wellFormed_of_encode_stream {i : Instr} {e : ByteEntry} {bs : List Byte}
    (h : encode i = some (.stream e bs)) : WellFormed i := by
  refine (wellFormed_iff i).2 ⟨?_, ?_⟩
  · rintro rfl
    cases h
  · rintro o rfl
    cases h

/-- An opcode that decodes to JMP has a source other than 0: with SRC = 0 it is a RET (R116, R207). -/
theorem src_ne_zero_of_decodeAsm_eq_jmp {op : Opcode} {o : FixedROps} (h : decodeAsm op = .asmJmp o) : o.src ≠ 0#9 := by
  have henc := encode_decodeAsm op
  rw [h] at henc
  cases henc
  intro hsrc
  have hn : instrOf (fixedRWord 23#6 false o) = 23#6 := instrOf_asmWord ..
  have hr : rOf (fixedRWord 23#6 false o) = false := rOf_asmWord ..
  have ho : srcOf (fixedRWord 23#6 false o) = 0#9 := (srcOf_asmWord ..).trans hsrc
  rw [decodeAsm_of_instrOf_23 hn, decodeJump_eq hr rfl, ho] at h
  cases h

/-- No opcode decodes to HUBOP, since HUBOP has no encoding (R86). -/
theorem decodeAsm_ne_hubop (op : Opcode) : decodeAsm op ≠ .asmHubop := by
  intro h
  have henc := encode_decodeAsm op
  rw [h] at henc
  cases henc

/-- Settles O3. -/
theorem everyOpcodeIsTheEncodingOfItsInstruction : Obligations.EveryOpcodeIsTheEncodingOfItsInstruction := fun op =>
  ⟨(wellFormed_iff _).2 ⟨decodeAsm_ne_hubop op, fun _ => src_ne_zero_of_decodeAsm_eq_jmp⟩, encode_decodeAsm op⟩

end Sys2Proof

/-! ### The byte entry points (R230, R290) -/

namespace Sys2Proof

theorem mathByte_of_fields : ∀ b : Byte, b.getLsbD 6 = true → mathByte (b.getLsbD 7) (b.extractLsb' 0 6) = b := by
  decide

theorem packedLiteralByte_of_fields : ∀ b : Byte, b.getLsbD 7 = false →
    packedLiteralByte (b.getLsbD 6) (b.getLsbD 5) (b.extractLsb' 0 5) = b := by decide

end Sys2Proof

namespace Sys2Proof.Machine

/-- A memory-operation byte is the encoding of its row, and the row means the memory operation of that byte. -/
theorem decodeMemopByte_spec (b : Byte) :
    encode (decodeMemopByte b) = some (.stream .memoryOperation [b]) ∧
      ∀ s, exec (decodeMemopByte b) s = decodeMemoryOperation b s := by
  have hbyte := memopByte_of_fields b
  have haction : b.extractLsb' 5 3 = BitVec.ofNat 3 (b.extractLsb' 5 3).toNat := by
    rw [BitVec.ofNat_toNat, BitVec.setWidth_eq]
  have hlt := (b.extractLsb' 5 3).isLt
  rw [haction] at hbyte
  unfold decodeMemopByte
  generalize (b.extractLsb' 5 3).toNat = action at hbyte hlt
  interval_cases action <;>
    exact ⟨congrArg (fun c => some (Encoding.stream .memoryOperation [c])) hbyte,
      fun s => congrArg (decodeMemoryOperation · s) hbyte⟩

/-- A math-operator byte is the encoding of its row, and the row means the assignment call of that byte. -/
theorem decodeMathByte_spec {b : Byte} (hmath : b.getLsbD 6 = true) :
    encode (decodeMathByte b) = some (.stream .assignment [b]) ∧
      ∀ s, exec (decodeMathByte b) s = decodeAssignment b s := by
  have hbyte := mathByte_of_fields b hmath
  have hentry : b.extractLsb' 0 6 = BitVec.ofNat 6 (b.extractLsb' 0 6).toNat := by
    rw [BitVec.ofNat_toNat, BitVec.setWidth_eq]
  have hlt := (b.extractLsb' 0 6).isLt
  rw [hentry] at hbyte
  unfold decodeMathByte
  generalize (b.extractLsb' 0 6).toNat = entry at hbyte hlt
  interval_cases entry <;>
    exact ⟨congrArg (fun c => some (Encoding.stream .assignment [c])) hbyte,
      fun s => congrArg (decodeAssignment · s) hbyte⟩

/-- A family byte is the encoding of its row. -/
theorem encode_decodeFamilyByte {b : Byte} (hmath : b.getLsbD 6 = false) :
    encode (decodeFamilyByte b) = some (.stream .assignment [b]) := by
  have hbyte := assignByte_of_fields b hmath
  have hfamily : b.extractLsb' 3 3 = BitVec.ofNat 3 (b.extractLsb' 3 3).toNat := by
    rw [BitVec.ofNat_toNat, BitVec.setWidth_eq]
  have hlt := (b.extractLsb' 3 3).isLt
  rw [hfamily] at hbyte
  unfold decodeFamilyByte
  generalize (b.extractLsb' 3 3).toNat = family at hbyte hlt
  generalize b.getLsbD 2 = bit2, b.getLsbD 1 = bit1 at hbyte
  interval_cases family <;> cases bit2 <;> cases bit1 <;>
    exact congrArg (fun c => some (Encoding.stream .assignment [c])) hbyte

/-- An assignment byte is the encoding of its row, and the row means the assignment call of that byte (R230). -/
theorem decodeAssignByte_spec (b : Byte) :
    encode (decodeAssignByte b) = some (.stream .assignment [b]) ∧
      ∀ s, exec (decodeAssignByte b) s = decodeAssignment b s := by
  cases hmath : b.getLsbD 6 with
  | true =>
    rw [decodeAssignByte, if_pos hmath]
    exact decodeMathByte_spec hmath
  | false =>
    rw [decodeAssignByte, if_neg (Bool.eq_false_iff.1 hmath)]
    exact ⟨encode_decodeFamilyByte hmath, exec_decodeFamilyByte hmath⟩

/-! ### What a bytecode entry point reads -/

/-- `i` is what the entry point `e` reads from the bytes `used`: they are its encoding, 1 to 4 of them, and its meaning
pulls as many and ends, where they are there, with an outcome other than StreamExhausted. -/
def ReadAs (e : ByteEntry) (used : List Byte) (i : Instr) : Prop :=
  encode i = some (.stream e used) ∧ (1 ≤ used.length ∧ used.length ≤ 4) ∧
    ∃ finish : Tables → Nat → CallOutcome, (∀ s, exec i s = streamCall used.length (finish s.tables) s) ∧
      ∀ t k j, finish t k ≠ .streamExhausted j

theorem assignmentOutcome_ne_streamExhausted (t : Tables) (b : Byte) (k j : Nat) :
    assignmentOutcome t b k ≠ .streamExhausted j := by
  simp only [assignmentOutcome]
  split
  · exact CallOutcome.noConfusion
  · split <;> exact CallOutcome.noConfusion

/-- What an offset form reads (R80, R82). -/
theorem decodeOffset_ok {short : BitVec 7 → Instr} {long : BitVec 7 → Byte → Instr} {bs rest : List Byte} {i : Instr}
    (h : decodeOffset short long bs = .ok (i, rest)) :
    (∃ b0 : Byte, b0.getLsbD 7 = false ∧ bs = b0 :: rest ∧ i = short (b0.extractLsb' 0 7)) ∨
      ∃ b0 b1 : Byte, b0.getLsbD 7 = true ∧ bs = b0 :: b1 :: rest ∧ i = long (b0.extractLsb' 0 7) b1 := by
  match bs with
  | [] => cases h
  | b0 :: bs =>
    cases htop : b0.getLsbD 7 with
    | false =>
      cases (decodeOffset_short short long htop bs).symm.trans h
      exact .inl ⟨b0, htop, rfl, rfl⟩
    | true =>
      match bs with
      | [] => simp [decodeOffset.eq_def, htop] at h
      | b1 :: bs =>
        cases (decodeOffset_long short long htop b1 bs).symm.trans h
        exact .inr ⟨b0, b1, htop, rfl, rfl⟩

/-- An offset entry point reads the encoding of its instruction. -/
theorem readAs_of_decodeOffset {e : ByteEntry} {short : BitVec 7 → Instr} {long : BitVec 7 → Byte → Instr}
    {bs rest : List Byte} {i : Instr} {shortValue : BitVec 7 → Value} {longValue : BitVec 7 → Byte → Value}
    (henc1 : ∀ v, encode (short v) = some (.stream e [offsetByte false v]))
    (henc2 : ∀ hi lo, encode (long hi lo) = some (.stream e [offsetByte true hi, lo]))
    (hexec1 : ∀ v s, exec (short v) s = streamCall 1 (valueOutcome (shortValue v)) s)
    (hexec2 : ∀ hi lo s, exec (long hi lo) s = streamCall 2 (valueOutcome (longValue hi lo)) s)
    (h : decodeOffset short long bs = .ok (i, rest)) : ∃ used, bs = used ++ rest ∧ ReadAs e used i := by
  obtain ⟨b0, htop, rfl, rfl⟩ | ⟨b0, b1, htop, rfl, rfl⟩ := decodeOffset_ok h
  · have hbyte := offsetByte_of_fields b0
    rw [htop] at hbyte
    exact ⟨[b0], rfl, (henc1 _).trans (by rw [hbyte]), by simp, fun _ => valueOutcome _, hexec1 _,
      fun _ _ _ => CallOutcome.noConfusion⟩
  · have hbyte := offsetByte_of_fields b0
    rw [htop] at hbyte
    exact ⟨[b0, b1], rfl, (henc2 _ _).trans (by rw [hbyte]), by simp, fun _ => valueOutcome _, hexec2 _ _,
      fun _ _ _ => CallOutcome.noConfusion⟩

theorem readAs_packedLiteral (b : Byte) : ReadAs .packedLiteral [b] (decodePackedLiteralByte b) := by
  cases htop : b.getLsbD 7 with
  | true =>
    have hbyte := offsetByte_of_fields b
    rw [htop] at hbyte
    rw [decodePackedLiteralByte_of_top htop]
    exact ⟨congrArg (fun c => some (Encoding.stream .packedLiteral [c])) hbyte, by simp, fun _ => literalOutcome _ _,
      fun _ => rfl, fun _ _ _ => CallOutcome.noConfusion⟩
  | false =>
    rw [decodePackedLiteralByte, if_neg (Bool.eq_false_iff.1 htop)]
    exact ⟨congrArg (fun c => some (Encoding.stream .packedLiteral [c])) (packedLiteralByte_of_fields b htop), by simp,
      fun _ => literalOutcome _ _, fun _ => rfl, fun _ _ _ => CallOutcome.noConfusion⟩

theorem readAs_assignment (b : Byte) : ReadAs .assignment [b] (decodeAssignByte b) := by
  obtain ⟨henc, hexec⟩ := decodeAssignByte_spec b
  exact ⟨henc, by simp, fun t => assignmentOutcome t b, hexec, fun t => assignmentOutcome_ne_streamExhausted t b⟩

theorem readAs_memoryOperation (b : Byte) : ReadAs .memoryOperation [b] (decodeMemopByte b) := by
  obtain ⟨henc, hexec⟩ := decodeMemopByte_spec b
  exact ⟨henc, by simp, fun t => memopOutcome t b, hexec, fun _ _ _ => CallOutcome.noConfusion⟩

/-- Every bytecode entry point reads the encoding of its instruction, and leaves the bytes after it. -/
theorem readAs_of_decodeBytes {e : ByteEntry} {bs rest : List Byte} {i : Instr} (h : decodeBytes e bs = .ok (i, rest)) :
    ∃ used, bs = used ++ rest ∧ ReadAs e used i := by
  cases e with
  | signedOffset =>
    exact readAs_of_decodeOffset (fun _ => rfl) (fun _ _ => rfl) (fun _ _ => rfl) (fun _ _ _ => rfl) h
  | signedPackedOffset =>
    exact readAs_of_decodeOffset (fun _ => rfl) (fun _ _ => rfl) (fun _ _ => rfl) (fun _ _ _ => rfl) h
  | packedOffset =>
    exact readAs_of_decodeOffset (fun _ => rfl) (fun _ _ => rfl) (fun _ _ => rfl) (fun _ _ _ => rfl) h
  | packedLiteral =>
    match bs, h with
    | b :: _, h => cases h; exact ⟨[b], rfl, readAs_packedLiteral b⟩
  | word =>
    match bs, h with
    | b0 :: b1 :: _, h =>
      cases h
      exact ⟨[b0, b1], rfl, rfl, by simp, fun _ => valueOutcome _, fun _ => rfl, fun _ _ _ => CallOutcome.noConfusion⟩
  | nearLong =>
    match bs, h with
    | b0 :: b1 :: b2 :: _, h =>
      cases h
      exact ⟨[b0, b1, b2], rfl, rfl, by simp, fun _ => valueOutcome _, fun _ => rfl,
        fun _ _ _ => CallOutcome.noConfusion⟩
  | long =>
    match bs, h with
    | b0 :: b1 :: b2 :: b3 :: _, h =>
      cases h
      exact ⟨[b0, b1, b2, b3], rfl, rfl, by simp, fun _ => valueOutcome _, fun _ => rfl,
        fun _ _ _ => CallOutcome.noConfusion⟩
  | assignment =>
    match bs, h with
    | b :: _, h => cases h; exact ⟨[b], rfl, readAs_assignment b⟩
  | memoryOperation =>
    match bs, h with
    | b :: _, h => cases h; exact ⟨[b], rfl, readAs_memoryOperation b⟩

/-- Bytes too short for their form are rejected, with a greater length of at most 4. -/
def Rejects (e : ByteEntry) (bs : List Byte) : Prop :=
  TooShort e bs ∧ ∃ n, decodeBytes e bs = .error (.truncated n) ∧ bs.length < n ∧ n ≤ 4

/-- Bytes that are enough for their form are read. -/
def Reads (e : ByteEntry) (bs : List Byte) : Prop := ¬ TooShort e bs ∧ ∃ r, decodeBytes e bs = .ok r

/-- Of an offset form, no byte and a first byte alone that asks for a second are too short (R82). -/
theorem rejects_or_reads_of_offset {e : ByteEntry} {short : BitVec 7 → Instr} {long : BitVec 7 → Byte → Instr}
    (he : e = .signedOffset ∨ e = .signedPackedOffset ∨ e = .packedOffset)
    (hdec : ∀ bs, decodeBytes e bs = decodeOffset short long bs) (bs : List Byte) : Rejects e bs ∨ Reads e bs := by
  have hshort : TooShort e bs ↔ bs = [] ∨ ∃ b0 : Byte, bs = [b0] ∧ b0.getLsbD 7 = true := by
    obtain rfl | rfl | rfl := he <;> simp [TooShort]
  rw [Rejects, Reads, hshort, hdec]
  match bs with
  | [] => exact .inl ⟨.inl rfl, 1, rfl, by decide, by decide⟩
  | b0 :: bs =>
    cases htop : b0.getLsbD 7 with
    | false => exact .inr ⟨by simp [-BitVec.getLsbD_eq_getElem, htop], _, decodeOffset_short short long htop bs⟩
    | true =>
      match bs with
      | [] =>
        exact .inl ⟨.inr ⟨b0, rfl, htop⟩, 2, by simp only [decodeOffset.eq_def, htop, if_true], by simp, by decide⟩
      | b1 :: bs => exact .inr ⟨by simp, _, decodeOffset_long short long htop b1 bs⟩

/-- The decoder reads an instruction from all bytes but those too short for their form (R82, R85). -/
theorem rejects_or_reads (e : ByteEntry) (bs : List Byte) : Rejects e bs ∨ Reads e bs := by
  cases e with
  | signedOffset => exact rejects_or_reads_of_offset (.inl rfl) (fun _ => rfl) bs
  | signedPackedOffset => exact rejects_or_reads_of_offset (.inr (.inl rfl)) (fun _ => rfl) bs
  | packedOffset => exact rejects_or_reads_of_offset (.inr (.inr rfl)) (fun _ => rfl) bs
  | packedLiteral | assignment | memoryOperation =>
    match bs with
    | [] => exact .inl ⟨.inl rfl, 1, rfl, by decide, by decide⟩
    | b :: _ => exact .inr ⟨by simp [TooShort], _, rfl⟩
  | word =>
    match bs with
    | [] => exact .inl ⟨.inl rfl, 2, rfl, by decide, by decide⟩
    | [b0] => exact .inl ⟨by simp [TooShort], 2, rfl, by simp, by decide⟩
    | b0 :: b1 :: _ => exact .inr ⟨by simp [TooShort], _, rfl⟩
  | nearLong =>
    match bs with
    | [] => exact .inl ⟨.inl rfl, 3, rfl, by decide, by decide⟩
    | [b0] | [b0, b1] => exact .inl ⟨by simp [TooShort], 3, rfl, by simp, by decide⟩
    | b0 :: b1 :: b2 :: _ => exact .inr ⟨by simp [TooShort], _, rfl⟩
  | long =>
    match bs with
    | [] => exact .inl ⟨.inl rfl, 4, rfl, by decide, by decide⟩
    | [b0] | [b0, b1] | [b0, b1, b2] => exact .inl ⟨by simp [TooShort], 4, rfl, by simp, by decide⟩
    | b0 :: b1 :: b2 :: b3 :: _ => exact .inr ⟨by simp [TooShort], _, rfl⟩

end Sys2Proof.Machine

namespace Sys2Proof

open Machine

/-- Settles O4. -/
theorem bytesReadAreTheEncodingOfTheirInstruction : Obligations.BytesReadAreTheEncodingOfTheirInstruction := by
  intro e bs rest i h
  obtain ⟨used, hbs, henc, ⟨hpos, hle⟩, _⟩ := readAs_of_decodeBytes h
  exact ⟨wellFormed_of_encode_stream henc, used, henc, hbs, hpos, hle⟩

/-- Settles O5. -/
theorem onlyTooShortBytesAreRejected : Obligations.OnlyTooShortBytesAreRejected := by
  intro e bs
  obtain ⟨hshort, n, hdec, hlt, hle⟩ | ⟨hshort, r, hdec⟩ := rejects_or_reads e bs
  · refine ⟨iff_of_true ⟨_, hdec⟩ hshort, fun m hm => ?_⟩
    cases hdec.symm.trans hm
    exact ⟨hlt, hle⟩
  · refine ⟨iff_of_false (fun ⟨_, herr⟩ => ?_) hshort, fun m hm => ?_⟩
    · cases hdec.symm.trans herr
    · cases hdec.symm.trans hm

end Sys2Proof

/-! ### The fields of an opcode, and table words (R71, R72, R53) -/

namespace Sys2Proof

open Machine

/-- An opcode is the sum of its fields at their places (R72). -/
theorem opcode_eq_sum_of_fields (op : Opcode) :
    op.toNat = (instrOf op).toNat * 2 ^ 26 + (zcriOf op).toNat * 2 ^ 22 + (conOf op).toNat * 2 ^ 18 +
      (destOf op).toNat * 2 ^ 9 + (srcOf op).toNat := by
  simp only [instrOf, zcriOf, conOf, destOf, srcOf, field_toNat]
  have := op.isLt
  omega

theorem zcri_eq_append : ∀ zcri : BitVec 4,
    BitVec.ofBool (zcri.getLsbD 3) ++ BitVec.ofBool (zcri.getLsbD 2) ++ BitVec.ofBool (zcri.getLsbD 1) ++
      BitVec.ofBool (zcri.getLsbD 0) = zcri := by decide

/-- Settles O6: the word of the fields has them, and every opcode with those fields is that word. -/
theorem fieldsCoverTheOpcode : Obligations.FieldsCoverTheOpcode := by
  refine ⟨opcode_eq_sum_of_fields, fun instr zcri con dest src =>
    ⟨asmWord instr (zcri.getLsbD 3) (zcri.getLsbD 2) (zcri.getLsbD 1) (zcri.getLsbD 0) con dest src, ?_, ?_⟩⟩
  · exact ⟨instrOf_asmWord .., (zcriOf_asmWord ..).trans (zcri_eq_append zcri), conOf_asmWord .., destOf_asmWord ..,
      srcOf_asmWord ..⟩
  · rintro op ⟨rfl, rfl, rfl, rfl, rfl⟩
    exact (asmWord_of_fields op).symm

/-- Byte `k` of a word of at least `k + 1` bytes does not see where the word was cut. -/
theorem tableByte_mod {n k : Nat} (w : Nat) (h : 8 * k + 8 ≤ n) :
    tableByte (w % 2 ^ n) k = BitVec.ofNat 8 (w / 2 ^ (8 * k)) := by
  refine BitVec.eq_of_getLsbD_eq fun j hj => ?_
  have hbit : 8 * k + j < n := by omega
  simp only [tableByte, BitVec.getLsbD_ofNat, Nat.testBit_shiftRight, Nat.testBit_mod_two_pow, hbit, decide_true,
    Bool.true_and, Nat.testBit_div_two_pow, Nat.add_comm j]

/-- The four bytes of a word, the least significant first, are the opcode of that number (R53). -/
theorem opcodeOfBytes_tableBytes (w : Nat) :
    opcodeOfBytes (tableByte (w % 2 ^ 32) 0) (tableByte (w % 2 ^ 32) 1) (tableByte (w % 2 ^ 32) 2)
      (tableByte (w % 2 ^ 32) 3) = BitVec.ofNat 32 w := by
  simp only [tableByte_mod w (show 8 * 0 + 8 ≤ 32 by decide), tableByte_mod w (show 8 * 1 + 8 ≤ 32 by decide),
    tableByte_mod w (show 8 * 2 + 8 ≤ 32 by decide), tableByte_mod w (show 8 * 3 + 8 ≤ 32 by decide)]
  refine BitVec.eq_of_getLsbD_eq fun j hj => ?_
  change BitVec.getLsbD (w := 8 + 8 + 8 + 8) _ j = _
  simp only [opcodeOfBytes, BitVec.getLsbD_append, BitVec.getLsbD_ofNat, Nat.testBit_div_two_pow]
  split_ifs <;> exact congrArg₂ _ (decide_eq_decide.2 (by omega)) (congrArg _ (by omega))

/-- Settles O7. -/
theorem tableWordsAreReadLeastSignificantFirst : Obligations.TableWordsAreReadLeastSignificantFirst := by
  intro w
  have h0 (n : Nat) (h : 8 ≤ n) : tableByte (w % 2 ^ n) 0 = BitVec.ofNat 8 w :=
    (tableByte_mod w (k := 0) h).trans (by rw [Nat.mul_zero, Nat.pow_zero, Nat.div_one])
  refine ⟨?_, ?_, ?_, ?_⟩
  · simp only [decodeTableWord, tableEncoding, opcodeOfBytes_tableBytes, decode]
  · simp only [decodeTableWord, tableEncoding, decode, decodeBytes, h0 8 (by decide)]
  · simp only [decodeTableWord, tableEncoding, decode, decodeBytes, h0 16 (by decide),
      tableByte_mod w (show 8 * 1 + 8 ≤ 16 by decide)]
  · simp only [decodeTableWord, tableEncoding, decode, decodeBytes, h0 24 (by decide),
      tableByte_mod w (show 8 * 1 + 8 ≤ 24 by decide), tableByte_mod w (show 8 * 2 + 8 ≤ 24 by decide)]

/-- Settles O1. -/
theorem specWordsDecodeToTheirRows : Obligations.SpecWordsDecodeToTheirRows :=
  ⟨rfl, rfl, rfl, rfl, rfl, rfl, rfl, rfl, rfl, rfl⟩

/-- Settles O29, byte by byte. -/
theorem assignmentFieldsAreTheBytesBits : Obligations.AssignmentFieldsAreTheBytesBits := by
  unfold Obligations.AssignmentFieldsAreTheBytesBits
  decide

end Sys2Proof

/-! ### Which variants the opcodes reach (R86, R111, R115) -/

namespace Sys2Proof.Machine

/-- A record of the Hub entry has an index of three bits (R114). -/
theorem variantIndex_le_seven_of_hub {t : Tables} {op : Opcode} (h : entryKind (asmEntry t (instrOf op)) = .hub) :
    (decodeRecord t op).variantIndex.val ≤ 7 := by
  have hval : (decodeRecord t op).variantIndex.val = (srcOf op).toNat % 8 := by
    rw [← select_hub_val (zcriOf op), ← h]
    rfl
  omega

/-- Of every entry and each of its indices, but Hub index 8, some opcode selects it: ZCRI and SRC are free. -/
theorem exists_opcode_selecting (instr : BitVec 6) (e : AsmEntry) (k : Nat) (hk : k < (entryVariants e).length)
    (hne : ¬ (entryKind e = .hub ∧ k = 8)) :
    ∃ op, instrOf op = instr ∧ (select (entryKind e) (zcriOf op) (srcOf op)).val = k := by
  suffices h : ∃ r i src,
      (select (entryKind e) (zcriOf (asmWord instr false false r i 0#4 0#9 src)) src).val = k by
    obtain ⟨r, i, src, h⟩ := h
    exact ⟨_, instrOf_asmWord .., by rwa [srcOf_asmWord]⟩
  simp only [zcriOf_asmWord]
  cases e with
  | normal v =>
    have : k = 0 := by simpa [entryVariants] using hk
    exact ⟨false, false, 0#9, this.symm⟩
  | wr v0 v1 =>
    have : k = 0 ∨ k = 1 := by simp only [entryVariants, List.length_cons, List.length_nil] at hk; omega
    obtain rfl | rfl := this
    · exact ⟨true, false, 0#9, rfl⟩
    · exact ⟨false, false, 0#9, rfl⟩
  | hub vs =>
    have : k < 8 := by
      have : k ≠ 8 := fun h => hne ⟨rfl, h⟩
      simp only [entryVariants, Vector.length_toList] at hk
      omega
    refine ⟨false, false, BitVec.ofNat 9 k, (select_hub_val _ _).trans ?_⟩
    rw [BitVec.toNat_ofNat]
    omega
  | jump v0 v1 v2 v3 =>
    have : k = 0 ∨ k = 1 ∨ k = 2 ∨ k = 3 := by
      simp only [entryVariants, List.length_cons, List.length_nil] at hk
      omega
    obtain rfl | rfl | rfl | rfl := this
    · exact ⟨false, false, 1#9, rfl⟩
    · exact ⟨false, false, 0#9, rfl⟩
    · exact ⟨true, false, 0#9, rfl⟩
    · exact ⟨true, true, 0#9, rfl⟩

end Sys2Proof.Machine

namespace Sys2Proof

open Machine

/-- The record a decoded opcode's call delivers is `decodeRecord`. -/
theorem record_of_exec {op : Opcode} {s : State} {d : DecodedInstruction}
    (h : exec (decodeAsm op) s = .next (ended (.success (.instruction d)) s)) : d = decodeRecord s.tables op := by
  cases (exec_decodeAsm op s).symm.trans h
  rfl

/-- Settles O18. -/
theorem everyVariantButHubEightIsReached : Obligations.EveryVariantButHubEightIsReached := by
  intro s instr e k v he hv
  have hentry := asmEntry_of_getElem? he
  subst hentry
  constructor
  · rintro ⟨op, d, rfl, hexec, hidx, _⟩ ⟨hhub, rfl⟩
    have hle := variantIndex_le_seven_of_hub hhub
    rw [← record_of_exec hexec, hidx] at hle
    omega
  · intro hne
    obtain ⟨op, rfl, hidx⟩ := exists_opcode_selecting instr _ k (List.getElem?_eq_some_iff.1 hv).1 hne
    have hidx : (decodeRecord s.tables op).variantIndex.val = k := hidx
    have hvariant := decodeRecord_variant s.tables op
    rw [hidx, hv] at hvariant
    exact ⟨op, _, rfl, exec_decodeAsm op s, hidx, (Option.some.inj hvariant).symm⟩

/-- Settles O19: HUBOP has no encoding, a Hub index has three bits, and well-formed tables name the ninth variant. -/
theorem hubopIsHeldAndUnreachable : Obligations.HubopIsHeldAndUnreachable := by
  refine ⟨decodeAsm_ne_hubop, fun op s t d hexec hout hkind => ?_, fun t vs hwf hmem => ?_, fun _ => rfl⟩
  · cases (exec_decodeAsm op s).symm.trans hexec
    cases hout
    exact variantIndex_le_seven_of_hub hkind
  · obtain ⟨_, _, hhub, _⟩ := entry_constraints hwf hmem
    have hname := congrArg (·[8]?) (hhub rfl)
    simpa [entryVariants, hubNames] using hname

end Sys2Proof

/-! ### Special operands (R126) and the capabilities (R26) -/

namespace Sys2Proof.Machine

/-- The special window is the top of the address space, so only its base is a bound (R24). -/
theorem inSpecialWindow_iff (a : RegAddr) : inSpecialWindow a = true ↔ 0x1F0 ≤ a.toNat := by
  have hbase : Config.specialBase.toNat = 0x1F0 := rfl
  have := a.isLt
  simp only [inSpecialWindow, Bool.and_eq_true, decide_eq_true_eq, hbase]
  omega

/-- A lookup in the special window delivers a special entry (R124). -/
theorem serveCall_regLookup_special {a : RegAddr} (s : State) (h : 0x1F0 ≤ a.toNat) :
    ∃ i r, serveCall (.regLookup .special a) s = .next (ended (.success (.register (.special i r))) s) := by
  have hwindow : inWindow s.tables .special a = true := (inSpecialWindow_iff a).2 h
  have hlookup : regLookup s.tables .special a = some (specialEntry s.tables _) := if_pos hwindow
  exact ⟨_, _, serveCall_regLookup_of_some hlookup⟩

theorem destIsSpecial_iff (d : DecodedInstruction) :
    d.destIsSpecial = true ↔ d.variant.hasDest = true ∧ 0x1F0 ≤ d.dest.toNat := by
  rw [DecodedInstruction.destIsSpecial, Bool.and_eq_true, inSpecialWindow_iff]

theorem srcIsSpecial_iff (d : DecodedInstruction) :
    d.srcIsSpecial = true ↔
      d.variant.hasSrc = true ∧ ¬ (d.i = true ∧ d.variant.srcLiteral = true) ∧ 0x1F0 ≤ d.src.toNat := by
  rw [DecodedInstruction.srcIsSpecial, DecodedInstruction.srcIsLiteral, Bool.and_eq_true, Bool.and_eq_true,
    inSpecialWindow_iff, Bool.not_eq_true', ← Bool.not_eq_true, Bool.and_eq_true, and_assoc]

end Sys2Proof.Machine

namespace Sys2Proof

open Machine

theorem destOf_toNat (op : Opcode) : (destOf op).toNat = op.toNat / 2 ^ 9 % 2 ^ 9 := field_toNat op 9 9

theorem srcOf_toNat (op : Opcode) : (srcOf op).toNat = op.toNat % 2 ^ 9 := by
  rw [srcOf_eq_ofNat, BitVec.toNat_ofNat]

/-- Settles O20: the two predicates are bounds on the two fields, and the bound is that of the lookup's window. -/
theorem specialOperandsCanBeLookedUp : Obligations.SpecialOperandsCanBeLookedUp := by
  intro op s
  have hdest := destIsSpecial_iff (decodeRecord s.tables op)
  have hsrc := srcIsSpecial_iff (decodeRecord s.tables op)
  refine ⟨_, exec_decodeAsm op s, ?_, ?_, fun h => ?_, fun h => ?_⟩
  · rw [← destOf_toNat]
    exact hdest
  · rw [← srcOf_toNat, ← iOf_eq_getLsbD]
    exact hsrc
  · obtain ⟨_, hlow⟩ := hdest.1 h
    exact serveCall_regLookup_special s hlow
  · obtain ⟨_, _, hlow⟩ := hsrc.1 h
    exact serveCall_regLookup_special s hlow

/-- Settles O21: a record is made of ASM_TABLE and COND_SYNONYMS alone. -/
theorem capabilitiesNeverAlterADecode : Obligations.CapabilitiesNeverAlterADecode := fun op s special =>
  ⟨_, exec_decodeAsm op s, exec_decodeAsm op { s with tables := { s.tables with special := special } }⟩

end Sys2Proof

/-! ### The rows of the default tables (R141 to R205) -/

namespace Sys2Proof.Machine

/-- The record of an opcode written by its fields, where the entry's kind, the selected index and the variant there are
known (R130, R117). -/
theorem decodeRecord_asmWord {t : Tables} {n : BitVec 6} {z c r i : Bool} {con : BitVec 4} {dest src : RegAddr}
    {k : Kind} {idx : Fin 9} {v : Variant} (hkind : entryKind (asmEntry t n) = k)
    (hidx : select k (zcriOf (asmWord n z c r i con dest src)) src = idx) (hv : entryVariant (asmEntry t n) idx = v) :
    decodeRecord t (asmWord n z c r i con dest src) =
      { opcode := asmWord n z c r i con dest src, instr := n, z := z, c := c, r := r, i := i, con := con, dest := dest,
        src := src, kind := k, variantIndex := idx, variant := v, wzEff := z && v.honorsZ, wcEff := c && v.honorsC,
        wrEff := r && v.honorsR, nrEff := !r && v.honorsR, immEff := i, conditions := condSynonyms t con } := by
  subst hkind hidx hv
  simp only [decodeRecord, resolve, wzEff, wcEff, wrEff, nrEff, immEff, instrOf_asmWord, zOf_asmWord, cOf_asmWord,
    rOf_asmWord, iOf_asmWord, conOf_asmWord, destOf_asmWord, srcOf_asmWord]

/-- What the call of a row delivers under the default tables, the variant being one that honors Z and C (R141). -/
theorem exec_row {row : Instr} {s : State} {n : BitVec 6} {z c r i : Bool} {con : BitVec 4} {dest src : RegAddr}
    {k : Kind} {idx : Fin 9} {name : String} {hasDest hasSrc honorsR srcLiteral : Bool} (ht : s.tables = defaultTables)
    (hexec : exec row s = decodeAssembly (asmWord n z c r i con dest src) s)
    (hkind : entryKind (asmEntry defaultTables n) = k)
    (hidx : select k (zcriOf (asmWord n z c r i con dest src)) src = idx)
    (hv : entryVariant (asmEntry defaultTables n) idx = variantOf name hasDest hasSrc honorsR srcLiteral) :
    exec row s = .next (ended (.success (.instruction
      { opcode := asmWord n z c r i con dest src, instr := n, z := z, c := c, r := r, i := i, con := con, dest := dest,
        src := src, kind := k, variantIndex := idx,
        variant := { name := name, hasDest := hasDest, hasSrc := hasSrc, honorsZ := true, honorsC := true,
                     honorsR := honorsR, srcLiteral := srcLiteral },
        wzEff := z, wcEff := c, wrEff := r && honorsR, nrEff := !r && honorsR, immEff := i,
        conditions := condSynonyms defaultTables con })) s) := by
  have hrecord := decodeRecord_asmWord hkind hidx hv
  simp only [variantOf, Bool.and_true] at hrecord
  rw [hexec, decodeAssembly_eq, ht, hrecord]
  rfl

/-- Every Normal row is the call of its opcode, and its entry holds its variant. -/
theorem normalRows_spec : ∀ row ∈ normalRowsLow ++ normalRowsHigh,
    (∀ o s, exec (row.2.2 o) s = decodeAssembly (fullWord row.1 o) s) ∧
      asmEntry defaultTables row.1 = normalEntry row.2.1 := by
  repeat refine List.forall_mem_cons.2 ⟨⟨fun _ _ => rfl, rfl⟩, ?_⟩
  exact List.forall_mem_nil _

/-- Every WR row is the call of its opcode, and its entry holds its variant at the index of its R. -/
theorem wrRows_spec : ∀ row ∈ wrRows,
    (∀ o s, exec (row.2.2.2 o) s = decodeAssembly (fixedRWord row.1 row.2.1 o) s) ∧
      entryKind (asmEntry defaultTables row.1) = .wr ∧
      entryVariant (asmEntry defaultTables row.1) (if row.2.1 then 0 else 1) =
        variantOf row.2.2.1 true true false true := by
  repeat refine List.forall_mem_cons.2 ⟨⟨fun _ _ => rfl, rfl, rfl⟩, ?_⟩
  exact List.forall_mem_nil _

/-- Every Hub row is the call of its opcode, and the Hub entry holds its variant at SRC[2:0]. -/
theorem hubRows_spec : ∀ row ∈ hubRows,
    (∀ o s, exec (row.2.2 o) s = decodeAssembly (hubWord 3#6 row.1 o) s) ∧
      entryVariant (asmEntry defaultTables 3#6) (Fin.ofNat 9 row.1.toNat) =
        variantOf row.2.1 true false true false := by
  repeat refine List.forall_mem_cons.2 ⟨⟨fun _ _ => rfl, rfl⟩, ?_⟩
  exact List.forall_mem_nil _

theorem select_wr_asmWord (n : BitVec 6) (z c r i : Bool) (con : BitVec 4) (dest src : RegAddr) :
    select .wr (zcriOf (asmWord n z c r i con dest src)) src = if r then 0 else 1 := by
  rw [select_wr, zcriOf_asmWord_bit _ _ _ _ _ _ _ _ _ (by decide)]
  rfl

theorem select_hub_append (zcri : BitVec 4) (srcHi : BitVec 6) (sub : BitVec 3) :
    select .hub zcri (srcHi ++ sub) = Fin.ofNat 9 sub.toNat := by
  have hlt := sub.isLt
  have hlow : (srcHi ++ sub : RegAddr).extractLsb' 0 3 = sub := BitVec.extractLsb'_append_eq_right
  apply Fin.ext
  rw [Fin.val_ofNat, Nat.mod_eq_of_lt (by omega)]
  simp only [select, hlow]

/-- JMP is selected where R is clear and SRC is not 0 (R116). -/
theorem select_jmp {n : BitVec 6} {z c i : Bool} {con : BitVec 4} {dest src : RegAddr} (hsrc : src ≠ 0#9) :
    select .jump (zcriOf (asmWord n z c false i con dest src)) src = 0 := by
  apply Fin.ext
  rw [select_jump_val, zcriOf_asmWord, if_neg hsrc]
  revert z c i
  decide

/-- RET is selected where R is clear and SRC is 0 (R116). -/
theorem select_ret {n : BitVec 6} {z c i : Bool} {con : BitVec 4} {dest : RegAddr} :
    select .jump (zcriOf (asmWord n z c false i con dest 0#9)) 0#9 = 1 := by
  apply Fin.ext
  rw [select_jump_val, zcriOf_asmWord, if_pos rfl]
  revert z c i
  decide

/-- JMPRET and CALL are selected where R is set, by I (R116). -/
theorem select_link {n : BitVec 6} {z c i : Bool} {con : BitVec 4} {dest src : RegAddr} :
    select .jump (zcriOf (asmWord n z c true i con dest src)) src = if i then 3 else 2 := by
  apply Fin.ext
  have hset : ∀ z c i : Bool,
      ¬ (BitVec.ofBool z ++ BitVec.ofBool c ++ BitVec.ofBool true ++ BitVec.ofBool i).toNat % 4 ≤ 1 := by decide
  rw [select_jump_val, zcriOf_asmWord, if_neg (hset z c i)]
  revert z c i
  decide

end Sys2Proof.Machine

namespace Sys2Proof

open Machine

/-- Settles O22. -/
theorem normalRowsDeliverTheirRecord : Obligations.NormalRowsDeliverTheirRecord := by
  intro row hrow o s ht
  obtain ⟨hexec, hentry⟩ := normalRows_spec row hrow
  simpa only [Bool.and_true] using
    exec_row (k := .normal) (idx := 0) ht (hexec o s) (congrArg entryKind hentry) rfl
      (congrArg (entryVariant · 0) hentry)

/-- Settles O23. -/
theorem wrRowsDeliverTheirRecord : Obligations.WrRowsDeliverTheirRecord := by
  intro row hrow o s ht
  obtain ⟨hexec, hkind, hv⟩ := wrRows_spec row hrow
  simpa only [Bool.and_false] using exec_row ht (hexec o s) hkind (select_wr_asmWord ..) hv

/-- Settles O24. -/
theorem hubRowsDeliverTheirRecord : Obligations.HubRowsDeliverTheirRecord := by
  intro row hrow o s ht
  obtain ⟨hexec, hv⟩ := hubRows_spec row hrow
  simpa only [Bool.and_true] using exec_row (k := .hub) ht (hexec o s) rfl (select_hub_append ..) hv

/-- Settles O25: R, I and SRC = 0 select the row. -/
theorem jumpRowsDeliverTheirRecord : Obligations.JumpRowsDeliverTheirRecord := by
  refine ⟨fun o s ht hsrc => ?_, fun o s ht => ?_, fun o s ht => ?_, fun o s ht => ?_⟩
  · exact exec_row ht rfl rfl (select_jmp hsrc) rfl
  · exact exec_row ht rfl rfl select_ret rfl
  · exact exec_row ht rfl rfl select_link rfl
  · exact exec_row ht rfl rfl select_link rfl

end Sys2Proof

/-! ### A byte at the cursor (R230, R290) -/

namespace Sys2Proof.Machine

/-- An assignment byte at the cursor ends the call with its outcome, one byte consumed. -/
theorem exec_decodeAssignByte {b : Byte} {s : State} {h p : Nat} (hat : StreamAt s h p [b]) :
    exec (decodeAssignByte b) s = .next (endedAt (assignmentOutcome s.tables b 1) h (p + 1) s) := by
  obtain ⟨_, hexec⟩ := decodeAssignByte_spec b
  exact (hexec s).trans (streamCall_of_streamAt _ hat)

/-- A memory-operation byte at the cursor ends the call with its record, one byte consumed. -/
theorem exec_decodeMemopByte {b : Byte} {s : State} {h p : Nat} (hat : StreamAt s h p [b]) :
    exec (decodeMemopByte b) s = .next (endedAt (memopOutcome s.tables b 1) h (p + 1) s) := by
  obtain ⟨_, hexec⟩ := decodeMemopByte_spec b
  exact (hexec s).trans (streamCall_of_streamAt _ hat)

end Sys2Proof.Machine

/-! ### The outcome of an assignment byte (R230 to R238) -/

namespace Sys2Proof.Machine

theorem mathIndex_toNat (b : Byte) : (mathIndex b).toNat = b.toNat % 64 := by
  rw [mathIndex, BitVec.extractLsb'_toNat, Nat.shiftRight_zero]

theorem mathEntryOf_of_getElem? {t : Tables} {b : Byte} {e : MathEntry} (h : t.mathOps[b.toNat % 64]? = some e) :
    mathEntryOf t b = e := by
  rw [← mathIndex_toNat] at h
  exact (Vector.getElem?_eq_some_iff.1 h).2

theorem mathOps_getElem? (t : Tables) (b : Byte) : t.mathOps[b.toNat % 64]? = some (mathEntryOf t b) := by
  rw [← mathIndex_toNat]
  exact Vector.getElem?_eq_getElem _

theorem families_getElem? (t : Tables) (b : Byte) : t.families[b.toNat / 8 % 8]? = some (familyOf t b) := by
  rw [← assignFields_family_toNat]
  exact Vector.getElem?_eq_getElem _

/-- A math byte ends with its entry and the entry's operand rule (R232, R237). -/
theorem assignmentOutcome_of_math {t : Tables} {b : Byte} (hmath : b.getLsbD 6 = true) (consumed : Nat) :
    assignmentOutcome t b consumed = .success (.assignment
      { byte := b, fields := assignFields b, isMath := true, op := .math (mathEntryOf t b),
        next := (mathEntryOf t b).operandRule, consumed := consumed }) := if_pos hmath

/-- A family byte ends with NoVariant where its family holds no variant at the index of its rule (R236, R314). -/
theorem assignmentOutcome_of_gap {t : Tables} {b : Byte} (hmath : b.getLsbD 6 = false)
    (hgap : (familyOf t b).variants[familyIndex (familyOf t b).rule (assignFields b)]? = none) (consumed : Nat) :
    assignmentOutcome t b consumed = .noVariant b := by
  have hpath : (assignFields b).math = false := hmath
  simp [assignmentOutcome, hpath, hgap]

/-- A size family selects by b[2:1] (R236). -/
theorem familyIndex_size (b : Byte) : familyIndex .size (assignFields b) = b.toNat / 2 % 4 := by
  rw [familyIndex, assignFields, BitVec.extractLsb'_toNat, Nat.shiftRight_eq_div_pow]

/-- The index that a rule reads from a byte, as a number (R234, R235, R236). -/
theorem familyIndex_eq (rule : FamilyRule) (b : Byte) :
    familyIndex rule (assignFields b) =
      match rule with
      | .writeRepeat => b.toNat / 2 % 2
      | .normal => b.toNat / 4 % 2
      | .size => b.toNat / 2 % 4 := by
  cases rule with
  | writeRepeat => exact familyIndex_writeRepeat b
  | normal => exact familyIndex_normal b
  | size => exact familyIndex_size b

theorem familyIndex_lt_selectable (rule : FamilyRule) (b : Byte) :
    familyIndex rule (assignFields b) < selectable rule := by
  cases rule with
  | writeRepeat => rw [familyIndex_writeRepeat]; exact Nat.mod_lt _ (by decide)
  | normal => rw [familyIndex_normal]; exact Nat.mod_lt _ (by decide)
  | size => rw [familyIndex_size]; exact Nat.mod_lt _ (by decide)

/-- A full family holds the variant that every byte of it selects. -/
theorem exists_variant_of_familiesFull {t : Tables} (hfull : familiesFull t = true) (b : Byte) :
    ∃ v, (familyOf t b).variants[familyIndex (familyOf t b).rule (assignFields b)]? = some v := by
  have hmem : familyOf t b ∈ t.families.toList :=
    Vector.mem_toList_iff.2 (Vector.mem_of_getElem? (families_getElem? t b))
  have hle := of_decide_eq_true (List.all_eq_true.1 hfull _ hmem)
  exact ⟨_, List.getElem?_eq_getElem (Nat.lt_of_lt_of_le (familyIndex_lt_selectable _ b) hle)⟩

end Sys2Proof.Machine

namespace Sys2Proof

open Machine

/-- Settles O30. -/
theorem mathBytesSelectTheirEntry : Obligations.MathBytesSelectTheirEntry := by
  intro b s h p e hmath hat he
  rw [exec_decodeAssignByte hat, assignmentOutcome_of_math hmath, mathEntryOf_of_getElem? he]

/-- Settles O32: the family's rule reads its index, and the family holds a variant there or not. -/
theorem sizeFamiliesSelectBySizeAndGapsGiveNoVariant : Obligations.SizeFamiliesSelectBySizeAndGapsGiveNoVariant := by
  intro b s h p fam hmath hat hfam
  have hfam := familyOf_of_getElem? hfam
  subst hfam
  refine ⟨fun v hrule hv => ?_, fun hgap => ?_⟩
  · rw [← familyIndex_size, ← hrule] at hv
    rw [exec_decodeAssignByte hat, assignmentOutcome_of_variant hmath hv]
  · have hindex : (familyOf s.tables b).variants.length ≤ familyIndex (familyOf s.tables b).rule (assignFields b) := by
      rw [familyIndex_eq]
      exact hgap
    rw [exec_decodeAssignByte hat, assignmentOutcome_of_gap hmath (List.getElem?_eq_none hindex)]

/-- Settles O34: a math byte has an entry, and a full family a variant. -/
theorem everyAssignmentByteDecodes : Obligations.EveryAssignmentByteDecodes := by
  refine ⟨by decide, fun b s h p hfull hat => ?_⟩
  rw [exec_decodeAssignByte hat]
  cases hmath : b.getLsbD 6 with
  | true => exact ⟨_, by rw [assignmentOutcome_of_math hmath], rfl, rfl, rfl⟩
  | false =>
    obtain ⟨v, hv⟩ := exists_variant_of_familiesFull hfull b
    exact ⟨_, by rw [assignmentOutcome_of_variant hmath hv], rfl, rfl, rfl⟩

end Sys2Proof

/-! ### The push flag (R238) -/

namespace Sys2Proof.Machine

/-- All fields but the push flag are read from b[6:0]. -/
theorem assignFields_offsetByte : ∀ (push push' : Bool) (low : BitVec 7),
    { assignFields (offsetByte push low) with push := (assignFields (offsetByte push' low)).push } =
      assignFields (offsetByte push' low) := by decide

/-- Bytes that agree below bit 7 have the same fields but for the push flag. -/
theorem assignFields_eq_of_mod {b c : Byte} (hbc : b.toNat % 128 = c.toNat % 128) :
    { assignFields b with push := (assignFields c).push } = assignFields c := by
  have hlow : b.extractLsb' 0 7 = c.extractLsb' 0 7 := BitVec.eq_of_toNat_eq (by simpa using hbc)
  have h := assignFields_offsetByte (b.getLsbD 7) (c.getLsbD 7) (b.extractLsb' 0 7)
  rwa [offsetByte_of_fields, hlow, offsetByte_of_fields] at h

end Sys2Proof.Machine

namespace Sys2Proof

open Machine

/-- Settles O33: the path, the entry, the family and the index within it are read from the fields below the push
flag. -/
theorem pushIsOnlyReported : Obligations.PushIsOnlyReported := by
  intro b c s s' h p hbc ht hb hc
  have hfields := assignFields_eq_of_mod hbc
  have hmath : b.getLsbD 6 = c.getLsbD 6 := congrArg AssignFields.math hfields
  have hentry : mathEntryOf s.tables b = mathEntryOf s'.tables c := by
    apply mathEntryOf_of_getElem?
    rw [ht, show b.toNat % 64 = c.toNat % 64 by omega, mathOps_getElem?]
  have hfamily : familyOf s.tables b = familyOf s'.tables c := by
    apply familyOf_of_getElem?
    rw [ht, show b.toNat / 8 % 8 = c.toNat / 8 % 8 by omega, families_getElem?]
  have hindex (rule : FamilyRule) : familyIndex rule (assignFields b) = familyIndex rule (assignFields c) := by
    rw [← hfields]
    cases rule <;> rfl
  rw [exec_decodeAssignByte hb, exec_decodeAssignByte hc]
  cases hpath : c.getLsbD 6 with
  | true =>
    rw [assignmentOutcome_of_math (hmath.trans hpath), assignmentOutcome_of_math hpath, hentry]
    exact .inl ⟨_, _, rfl, rfl, rfl, rfl, rfl, hfields⟩
  | false =>
    cases hv : (familyOf s'.tables c).variants[familyIndex (familyOf s'.tables c).rule (assignFields c)]? with
    | some v =>
      rw [assignmentOutcome_of_variant hpath hv,
        assignmentOutcome_of_variant (hmath.trans hpath) (by rw [hfamily, hindex, hv])]
      exact .inl ⟨_, _, rfl, rfl, rfl, rfl, rfl, hfields⟩
    | none =>
      rw [assignmentOutcome_of_gap hpath hv, assignmentOutcome_of_gap (hmath.trans hpath) (by rw [hfamily, hindex, hv])]
      exact .inr ⟨rfl, rfl⟩

end Sys2Proof

/-! ### The outcome of a memory-operation byte (R290 to R300) -/

namespace Sys2Proof.Machine

theorem memopIndex_eq_ofNat (b : Byte) : memopIndex b = BitVec.ofNat 4 b.toNat := by
  rw [memopIndex, BitVec.extractLsb', Nat.shiftRight_zero]

theorem actionCode_eq_ofNat : ∀ b : Byte, actionCode b = BitVec.ofNat 4 (b.toNat / 32) := by decide

theorem memopSel_iff : ∀ b : Byte, memopSel b = true ↔ b.toNat / 16 % 2 = 1 := by decide

theorem memopAddr_eq_ofNat (base : RegAddr) (b : Byte) :
    memopAddr base b = BitVec.ofNat 9 (base.toNat + b.toNat % 32) := by
  apply BitVec.eq_of_toNat_eq
  simp [memopAddr]

theorem actionClassOf_of_getElem? {t : Tables} {action : BitVec 4} {cls : ActionClass}
    (h : t.memopClass[action.toNat]? = some cls) : actionClassOf t action = cls := (Vector.getElem?_eq_some_iff.1 h).2

/-- The lookup in the table that the selector names finds the record's register at the record's address, when the two
windows are adjacent (R124, R295, decision D8). -/
theorem regLookup_memopAddr {t : Tables} (hbase : t.memopRegBase = 0x1E0#9) (b : Byte) :
    regLookup t (if memopSel b then .special else .slot) (memopAddr t.memopRegBase b) = some (memopRegister t b) := by
  have hspecial : ∀ b : Byte, memopSel b = true →
      0x1F0 ≤ (memopAddr 0x1E0#9 b).toNat ∧ (memopAddr 0x1E0#9 b - Config.specialBase).setWidth 4 = memopIndex b := by
    decide
  have hslot : ∀ b : Byte, memopSel b = false →
      (0x1E0 ≤ (memopAddr 0x1E0#9 b).toNat ∧ (memopAddr 0x1E0#9 b).toNat ≤ 0x1E0 + 15) ∧
        (memopAddr 0x1E0#9 b - 0x1E0#9).setWidth 4 = memopIndex b := by decide
  cases hsel : memopSel b with
  | true =>
    obtain ⟨hlow, hindex⟩ := hspecial b hsel
    rw [hbase, memopRegister, hsel, if_pos rfl, if_pos rfl, ← hindex]
    exact if_pos ((inSpecialWindow_iff _).2 hlow)
  | false =>
    obtain ⟨hwindow, hindex⟩ := hslot b hsel
    rw [memopRegister, hsel, if_neg Bool.false_ne_true, if_neg Bool.false_ne_true, ← hindex, regLookup,
      if_pos ((inWindow_iff t .slot _).2 (by rw [windowBase, hbase]; exact hwindow)), windowBase, hbase]

end Sys2Proof.Machine

namespace Sys2Proof

open Machine

/-- Settles O35, field by field. -/
theorem everyMemoryOperationByteDecodes : Obligations.EveryMemoryOperationByteDecodes := by
  intro b s h p cls x y hat hcls hx hy
  have hindex : (BitVec.ofNat 4 b.toNat).toNat = b.toNat % 16 := BitVec.toNat_ofNat ..
  have haction : (BitVec.ofNat 4 (b.toNat / 32)).toNat = b.toNat / 32 := by
    have := b.isLt
    rw [BitVec.toNat_ofNat]
    omega
  rw [← haction] at hcls
  rw [← hindex] at hx hy
  simp only [exec_decodeMemopByte hat, memopOutcome, memopRegister, memopSel_iff, memopIndex_eq_ofNat,
    actionCode_eq_ofNat, memopAddr_eq_ofNat, actionClassOf_of_getElem? hcls, specialEntry_of_getElem? hx,
    slotEntry_of_getElem? hy]
  rfl

/-- Settles O36. -/
theorem memopRegisterIsTheLookupAtItsAddress : Obligations.MemopRegisterIsTheLookupAtItsAddress :=
  fun b _ _ _ hbase hat => ⟨_, exec_decodeMemopByte hat, serveCall_regLookup_of_some (regLookup_memopAddr hbase b)⟩

end Sys2Proof

/-! ### The byte rows of the default tables (R240 to R299) -/

namespace Sys2Proof.Machine

/-- Every memory-operation row is the call of its byte, and the table holds its class. -/
theorem memopRows_spec : ∀ row ∈ memopRows,
    (∀ sel index s, exec (row.2.2 sel index) s = decodeMemoryOperation (memopByte row.1 sel index) s) ∧
      actionClassOf defaultTables (BitVec.ofNat 4 row.1.toNat) = row.2.1 := by
  repeat refine List.forall_mem_cons.2 ⟨⟨fun _ _ _ => rfl, rfl⟩, ?_⟩
  exact List.forall_mem_nil _

/-- The action code and the address of a memory-operation byte under the default base, from the parts of the byte. -/
theorem memopByte_action_addr : ∀ (a : BitVec 3) (sel : Bool) (index : BitVec 4),
    actionCode (memopByte a sel index) = BitVec.ofNat 4 a.toNat ∧
      memopAddr 0x1E0#9 (memopByte a sel index) = BitVec.ofNat 9 (0x1E0 + (if sel then 16 else 0) + index.toNat) := by
  decide

/-- The record of a memory-operation byte under the default tables, from the parts of the byte. -/
theorem memopOutcome_memopByte (a : BitVec 3) (sel : Bool) (index : BitVec 4) (consumed : Nat) :
    memopOutcome defaultTables (memopByte a sel index) consumed = .success (.memoryOperation
      { byte := memopByte a sel index, addr := BitVec.ofNat 9 (0x1E0 + (if sel then 16 else 0) + index.toNat),
        sel := sel, index := index, action := BitVec.ofNat 4 a.toNat,
        actionClass := actionClassOf defaultTables (BitVec.ofNat 4 a.toNat),
        reg := if sel then specialEntry defaultTables index else slotEntry defaultTables index,
        consumed := consumed }) := by
  obtain ⟨_, hsel, hindex⟩ := memopByte_fields a sel index
  obtain ⟨haction, haddr⟩ := memopByte_action_addr a sel index
  have hbase : defaultTables.memopRegBase = 0x1E0#9 := rfl
  rw [memopOutcome, hbase, haddr, haction, memopRegister, memopSel, hsel, memopIndex, hindex]

/-- The default tables hold, in a family of this rule, this variant at this index. -/
def DefaultVariant (f : BitVec 3) (rule : FamilyRule) (index : Nat) (v : AssignVariant) : Prop :=
  ∃ fam, defaultTables.families[f.toNat]? = some fam ∧ fam.rule = rule ∧ fam.variants[index]? = some v

/-- A row of the family path under the default tables: its byte ends with the variant at the index its rule reads. -/
theorem exec_familyRow {row : Instr} {s : State} {h p : Nat} {push bit2 bit1 bit0 : Bool} {f : BitVec 3}
    {rule : FamilyRule} {v : AssignVariant} (ht : s.tables = defaultTables)
    (hat : StreamAt s h p [assignByte push f bit2 bit1 bit0])
    (hexec : exec row s = decodeAssignment (assignByte push f bit2 bit1 bit0) s)
    (hv : DefaultVariant f rule (familyIndex rule (assignFields (assignByte push f bit2 bit1 bit0))) v) :
    exec row s = .next (endedAt (.success (.assignment
      { byte := assignByte push f bit2 bit1 bit0, fields := assignFields (assignByte push f bit2 bit1 bit0),
        isMath := false, op := .family v, next := v.operandRule, consumed := 1 })) h (p + 1) s) := by
  obtain ⟨_, hmath, hf, _⟩ := assignByte_fields push f bit2 bit1 bit0
  obtain ⟨fam, hfam, rfl, hv⟩ := hv
  have hfamily : familyOf defaultTables (assignByte push f bit2 bit1 bit0) = fam := by
    apply familyOf_of_getElem?
    have hf : (assignFields (assignByte push f bit2 bit1 bit0)).family = f := hf
    rw [← assignFields_family_toNat, hf, hfam]
  rw [← hfamily] at hv
  rw [← assignmentOutcome_of_variant hmath hv, ← ht]
  exact hexec.trans (streamCall_of_streamAt _ hat)

/-- The index that each rule reads from a family byte, from the parts of the byte (R234 to R236). -/
theorem familyIndex_assignByte : ∀ (push : Bool) (f : BitVec 3) (bit2 bit1 bit0 : Bool),
    familyIndex .writeRepeat (assignFields (assignByte push f bit2 bit1 bit0)) = bit1.toNat ∧
      familyIndex .normal (assignFields (assignByte push f bit2 bit1 bit0)) = bit2.toNat ∧
      familyIndex .size (assignFields (assignByte push f bit2 bit1 bit0)) = 2 * bit2.toNat + bit1.toNat := by decide

/-- Every row of family 0 is the call of its byte, and the family holds its variant at Bit1. -/
theorem writeRepeatRows_spec : ∀ row ∈ writeRepeatRows,
    (∀ push bit2 bit0 s,
      exec (row.2.2.2 push bit2 bit0) s = decodeAssignment (assignByte push 0#3 bit2 row.1 bit0) s) ∧
      DefaultVariant 0#3 .writeRepeat row.1.toNat { name := row.2.1, operandRule := row.2.2.1 } := by
  repeat refine List.forall_mem_cons.2 ⟨⟨fun _ _ _ _ => rfl, _, rfl, rfl, rfl⟩, ?_⟩
  exact List.forall_mem_nil _

/-- Every row of families 1 to 3 is the call of its byte, and its family holds its variant at Bit2. -/
theorem normalFamilyRows_spec : ∀ row ∈ normalFamilyRows,
    (∀ push bit1 bit0 s,
      exec (row.2.2.2 push bit1 bit0) s = decodeAssignment (assignByte push row.1 row.2.1 bit1 bit0) s) ∧
      DefaultVariant row.1 .normal row.2.1.toNat { name := row.2.2.1, operandRule := .none } := by
  repeat refine List.forall_mem_cons.2 ⟨⟨fun _ _ _ _ => rfl, _, rfl, rfl, rfl⟩, ?_⟩
  exact List.forall_mem_nil _

/-- Every row of families 4 to 7 is the call of its byte, and its family holds its variant at its size. -/
theorem sizeRows_spec : ∀ row ∈ sizeRows,
    (∀ push bit0 s,
      exec (row.2.2.2.2 push bit0) s = decodeAssignment (assignByte push row.1 row.2.1 row.2.2.1 bit0) s) ∧
      DefaultVariant row.1 .size (2 * row.2.1.toNat + row.2.2.1.toNat)
        { name := row.2.2.2.1, operandRule := .none } := by
  repeat refine List.forall_mem_cons.2 ⟨⟨fun _ _ _ => rfl, _, rfl, rfl, rfl⟩, ?_⟩
  exact List.forall_mem_nil _

theorem mathEntryOf_mathByte {t : Tables} {push : Bool} {n : BitVec 6} {e : MathEntry}
    (h : t.mathOps[n.toNat]? = some e) : mathEntryOf t (mathByte push n) = e := by
  obtain ⟨_, _, hentry⟩ := mathByte_fields push n
  apply mathEntryOf_of_getElem?
  rw [← mathIndex_toNat, mathIndex, hentry, h]

/-- Every math row is the call of its byte, and the default table holds its operator at its entry (R248). -/
theorem mathRows_spec : ∀ row ∈ mathRows ++ mathSwapRows,
    (∀ push s, exec (row.2.2 push) s = decodeAssignment (mathByte push row.1) s) ∧
      defaultTables.mathOps[row.1.toNat]? =
        some { name := row.2.1, mathop := BitVec.ofNat 5 row.1.toNat, swap := decide (32 ≤ row.1.toNat),
               operandRule := .none } := by
  repeat refine List.forall_mem_cons.2 ⟨⟨fun _ _ => rfl, rfl⟩, ?_⟩
  exact List.forall_mem_nil _

end Sys2Proof.Machine

namespace Sys2Proof

open Machine

/-- Settles O26. -/
theorem memopRowsDeliverTheirRecord : Obligations.MemopRowsDeliverTheirRecord := by
  intro row hrow sel index s h p ht hat
  obtain ⟨hexec, hclass⟩ := memopRows_spec row hrow
  rw [← hclass, ← memopOutcome_memopByte, ← ht]
  exact (hexec sel index s).trans (streamCall_of_streamAt _ hat)

/-- Settles O27: each row's byte carries its family, and the bits that the family's rule reads. -/
theorem assignmentRowsDeliverTheirRecord : Obligations.AssignmentRowsDeliverTheirRecord := by
  refine ⟨fun row hrow push bit2 bit0 s h p ht hat => ?_, fun row hrow push bit1 bit0 s h p ht hat => ?_,
    fun row hrow push bit0 s h p ht hat => ?_⟩
  · obtain ⟨hexec, hv⟩ := writeRepeatRows_spec row hrow
    obtain ⟨hindex, _, _⟩ := familyIndex_assignByte push 0#3 bit2 row.1 bit0
    rw [← hindex] at hv
    exact exec_familyRow ht hat (hexec push bit2 bit0 s) hv
  · obtain ⟨hexec, hv⟩ := normalFamilyRows_spec row hrow
    obtain ⟨_, hindex, _⟩ := familyIndex_assignByte push row.1 row.2.1 bit1 bit0
    rw [← hindex] at hv
    exact exec_familyRow ht hat (hexec push bit1 bit0 s) hv
  · obtain ⟨hexec, hv⟩ := sizeRows_spec row hrow
    obtain ⟨_, _, hindex⟩ := familyIndex_assignByte push row.1 row.2.1 row.2.2.1 bit0
    rw [← hindex] at hv
    exact exec_familyRow ht hat (hexec push bit0 s) hv

/-- Settles O28. -/
theorem mathRowsDeliverTheirRecord : Obligations.MathRowsDeliverTheirRecord := by
  intro row hrow push s h p ht hat
  obtain ⟨hexec, hop⟩ := mathRows_spec row hrow
  obtain ⟨_, hmath, _⟩ := mathByte_fields push row.1
  have hcall := (hexec push s).trans (streamCall_of_streamAt (assignmentOutcome s.tables _) hat)
  rw [ht, assignmentOutcome_of_math hmath, mathEntryOf_mathByte hop] at hcall
  exact hcall

end Sys2Proof

/-! ### Reads of different lengths at one address (R50) -/

namespace Sys2Proof.Machine

/-- A shorter look at the same address sees the first of the same bytes. -/
theorem peek_take (m : Memory) (p : Nat) {n k : Nat} (h : n ≤ k) : (Memory.peek m p k).take n = Memory.peek m p n := by
  induction n generalizing p k with
  | zero => rfl
  | succ n ih =>
    obtain ⟨k, rfl⟩ : ∃ j, k = j + 1 := ⟨k - 1, by omega⟩
    cases hb : Memory.read m p with
    | none => rw [Memory.peek_succ_none _ _ _ hb, Memory.peek_succ_none _ _ _ hb, List.take_nil]
    | some b =>
      rw [Memory.peek_succ_some _ _ _ _ hb, Memory.peek_succ_some _ _ _ _ hb, List.take_succ_cons, ih _ (by omega)]

/-- The bytes that stand before the end of the data are all that any longer look sees. -/
theorem peek_of_end {s : State} {p k : Nat} {bs : List Byte} (hbytes : BytesAt s p bs)
    (hend : Memory.read s.image (p + bs.length) = none) (hk : bs.length ≤ k) : Memory.peek s.image p k = bs := by
  induction bs generalizing p k with
  | nil =>
    cases k with
    | zero => rfl
    | succ k => exact Memory.peek_succ_none _ _ _ hend
  | cons b bs ih =>
    obtain ⟨k, rfl⟩ : ∃ j, k = j + 1 := ⟨k - 1, by simp only [List.length_cons] at hk; omega⟩
    have hhead : Memory.read s.image p = some b := hbytes 0 b rfl
    have htail : BytesAt s (p + 1) bs := fun j c hc => by
      rw [Nat.add_right_comm]
      exact hbytes (j + 1) c hc
    rw [Memory.peek_succ_some _ _ _ _ hhead, ih htail (by rwa [Nat.add_right_comm]) (Nat.le_of_succ_le_succ hk)]

end Sys2Proof.Machine

/-! ### Everything a bytecode call does (R217, R219, R317)

At an open cursor the call is a function of the tables and of the bytes that stand there; without one it ends at
once. -/

namespace Sys2Proof.Machine

/-- Ending exhausted leaves the bytes that are there consumed and counted (R219, R311). -/
theorem endExhausted_eq {s : State} {h p : Nat} (n : Nat) (hh : s.handle = some h) (hc : s.cursors[h]? = some p) :
    endExhausted n s = endedAt (.streamExhausted (Memory.peek s.image p n).length) h
      (p + (Memory.peek s.image p n).length) s := by
  have hcall := streamCall_present n .streamExhausted s h p hh hc
  rw [streamCall_streamExhausted n (s.cursor?_eq_some h p hh hc)] at hcall
  simp only [ite_self, Host.Outcome.next.injEq] at hcall
  exact hcall

/-- At an open cursor the call runs what stands there, or ends exhausted. -/
theorem serveCall_bytecode_open {e : ByteEntry} {s : State} {h p : Nat} (hc : s.cursors[h]? = some p) :
    serveCall (.bytecode e (some h)) s =
      match decodeBytes e (Memory.peek s.image p longestForm) with
      | .ok (i, _) => exec i (s.present (some h))
      | .error (.truncated needed) => .next (endExhausted needed (s.present (some h))) := by
  have hcursor : (s.present (some h)).cursor? = some p := State.cursor?_eq_some _ h p rfl hc
  simp only [serveCall, fetch, hcursor, State.present_image]
  cases decodeBytes e (Memory.peek s.image p longestForm) with
  | ok r => rfl
  | error r => cases r; rfl

/-- A call on a handle of no open stream ends with InvalidArgument (R312, notes/assumptions/6.md). -/
theorem serveCall_bytecode_closed {e : ByteEntry} {s : State} {h : Nat} (hc : s.cursors[h]? = none) :
    serveCall (.bytecode e (some h)) s = .next (ended .invalidArgument s) := by
  have hcursor : (s.present (some h)).cursor? = none := hc
  simp only [serveCall, fetch_absent e hcursor]
  rfl

/-- What the call of an entry point gives where the bytes `bs` stand at its cursor: StreamExhausted after all of them
exactly where they are too short for the form, and never more than four bytes consumed. -/
def GivesOn (e : ByteEntry) (bs : List Byte) (o : CallOutcome) (k : Nat) : Prop :=
  k ≤ 4 ∧ ((TooShort e bs ∧ o = .streamExhausted bs.length ∧ k = bs.length) ∨
    (¬ TooShort e bs ∧ ∀ j, o ≠ .streamExhausted j))

/-- Everything a bytecode call does at an open cursor: its outcome and the bytes it consumes are determined by the
tables and by the bytes at the cursor, and only that cursor moves. -/
theorem serveCall_bytecode_present (e : ByteEntry) (t : Tables) (m : Memory) (p : Nat) :
    ∃ o k, GivesOn e (Memory.peek m p longestForm) o k ∧ ∀ s h, s.tables = t → s.image = m → s.cursors[h]? = some p →
      serveCall (.bytecode e (some h)) s = .next (endedAt o h (p + k) s) := by
  obtain ⟨hshort, n, hdec, hlt, hle⟩ | ⟨hshort, ⟨i, rest⟩, hdec⟩ := rejects_or_reads e (Memory.peek m p longestForm)
  · have hpeek : Memory.peek m p n = Memory.peek m p longestForm := by
      rw [← peek_take m p (k := longestForm) hle, List.take_of_length_le (Nat.le_of_lt hlt)]
    refine ⟨_, _, ⟨by omega, .inl ⟨hshort, rfl, rfl⟩⟩, ?_⟩
    rintro s h rfl rfl hc
    rw [serveCall_bytecode_open hc]
    simp only [hdec, endExhausted_eq (s := s.present (some h)) n rfl hc, State.present_image, hpeek]
    rfl
  · obtain ⟨used, hbs, _, ⟨_, hle⟩, finish, hexec, hne⟩ := readAs_of_decodeBytes hdec
    have hpeek : Memory.peek m p used.length = used := by
      rw [← peek_take m p hle, show Memory.peek m p 4 = used ++ rest from hbs, List.take_left]
    refine ⟨finish t used.length, used.length, ⟨hle, .inr ⟨hshort, hne t used.length⟩⟩, ?_⟩
    rintro s h rfl rfl hc
    have hcall := streamCall_present used.length (finish s.tables) (s.present (some h)) h p rfl hc
    simp only [State.present_image, hpeek, if_true] at hcall
    rw [serveCall_bytecode_open hc]
    simp only [hdec]
    exact (hexec _).trans hcall

/-- A call on a stream too short for its form is exhausted, all the bytes left consumed. -/
theorem callExhausts_of_tooShort {e : ByteEntry} {bs : List Byte} (h : TooShort e bs) :
    bs.length ≤ 3 ∧ CallExhausts e bs := by
  obtain ⟨_, n, _, hlt, hle⟩ | ⟨hnot, _⟩ := rejects_or_reads e bs
  · refine ⟨by omega, fun s hd p hc hbytes hend => ?_⟩
    have hpeek : Memory.peek s.image p longestForm = bs :=
      peek_of_end hbytes hend (Nat.le_of_lt (Nat.lt_of_lt_of_le hlt hle))
    obtain ⟨o, k, ⟨_, hgives⟩, hcall⟩ := serveCall_bytecode_present e s.tables s.image p
    rw [hpeek] at hgives
    obtain ⟨_, rfl, rfl⟩ | ⟨hnot, _⟩ := hgives
    · exact hcall s hd rfl rfl hc
    · exact absurd h hnot
  · exact absurd h hnot

end Sys2Proof.Machine

namespace Sys2Proof

open Machine

/-- Settles O45. -/
theorem streamExhaustedExactlyOnShortStreams : Obligations.StreamExhaustedExactlyOnShortStreams := by
  refine ⟨fun _ _ => callExhausts_of_tooShort, fun e s t h p k hc hcall hout => ?_,
    fun op s _ => ⟨_, exec_decodeAsm op s, CallOutcome.noConfusion⟩⟩
  obtain ⟨o, j, ⟨_, hgives⟩, hpresent⟩ := serveCall_bytecode_present e s.tables s.image p
  cases (hpresent s h rfl rfl hc).symm.trans hcall
  cases hout
  obtain ⟨hshort, hk, _⟩ | ⟨_, hne⟩ := hgives
  · cases hk
    exact ⟨hshort, rfl⟩
  · exact absurd rfl (hne k)

end Sys2Proof

/-! ### Operand values as numbers (R210 to R218) -/

namespace Sys2Proof.Machine

/-- A second byte below the first is worth its own number, the first 256 times its own (R52). -/
theorem append_byte_toNat {w : Nat} (hi : BitVec w) (lo : Byte) : (hi ++ lo).toNat = hi.toNat * 256 + lo.toNat := by
  rw [BitVec.toNat_append, ← Nat.shiftLeft_add_eq_or_of_lt lo.isLt, Nat.shiftLeft_eq]

/-- The same of signed numbers: the sign is that of the first. -/
theorem append_byte_toInt {w : Nat} (hw : 0 < w) (hi : BitVec w) (lo : Byte) :
    (hi ++ lo).toInt = hi.toInt * 256 + lo.toNat := by
  have hlo := lo.isLt
  rw [BitVec.toInt_eq_toNat_cond, BitVec.toInt_eq_toNat_cond, append_byte_toNat, Nat.pow_add]
  obtain ⟨v, rfl⟩ : ∃ v, w = v + 1 := ⟨w - 1, by omega⟩
  have hcast : ((2 ^ v : Nat) : Int) = 2 ^ v := Nat.cast_pow 2 v
  split_ifs <;> push_cast [pow_add] <;> omega

/-- An instruction that pulls its bytes and ends with a value delivers it where they stand. -/
theorem deliversValue_of_exec {i : Instr} {bs : List Byte} {v v' : Value} (hv : v = v')
    (hexec : ∀ s, exec i s = streamCall bs.length (valueOutcome v) s) : DeliversValue i bs v' none := by
  subst hv
  exact fun s h p hat => (hexec s).trans (streamCall_of_streamAt _ hat)

theorem signedOffsetShort_eq : ∀ b0 : Byte, b0.toNat < 128 → signedOffsetShort (b0.extractLsb' 0 7) =
    BitVec.ofInt 32 (if b0.toNat < 64 then b0.toNat else (b0.toNat : Int) - 128) := by decide

theorem signedOffsetLong_eq (hi : BitVec 7) (lo : Byte) :
    signedOffsetLong hi lo = BitVec.ofInt 32 (hi.toInt * 256 + lo.toNat) := by
  rw [signedOffsetLong, BitVec.signExtend, append_byte_toInt (by decide)]

theorem signedPackedOffsetLong_eq (hi : BitVec 7) (lo : Byte) :
    signedPackedOffsetLong hi lo = BitVec.ofInt 32 ((packedSignByte hi).toInt * 256 + lo.toNat) := by
  rw [signedPackedOffsetLong, BitVec.signExtend, append_byte_toInt (by decide)]

/-- Rebuilding the first byte is extending the sign of its low seven bits (R212). -/
theorem packedSignByte_toInt : ∀ hi : BitVec 7, (packedSignByte hi).toInt = hi.toInt := by decide

theorem low_toInt : ∀ b0 : Byte, 128 ≤ b0.toNat → (b0.extractLsb' 0 7).toInt =
    if b0.toNat < 192 then (b0.toNat : Int) - 128 else (b0.toNat : Int) - 256 := by decide

/-- The rebuilt first byte as a signed number (R212). -/
def rebuiltFirst (b0 : Byte) : Int :=
  if b0.toNat / 64 % 2 = 1 then (b0.toNat % 128 : Int) + 128 - 256 else (b0.toNat % 128 : Int)

theorem packedSignByte_toInt_eq_rebuilt : ∀ b0 : Byte,
    (packedSignByte (b0.extractLsb' 0 7)).toInt = rebuiltFirst b0 := by decide

theorem packedLiteralByte_eq_ofNat : ∀ (complement decrement : Bool) (exponent : BitVec 5),
    BitVec.ofNat 8 (complement.toNat * 64 + decrement.toNat * 32 + exponent.toNat) =
      packedLiteralByte complement decrement exponent := by decide

theorem packedLiteralValue_eq : ∀ (complement decrement : Bool) (exponent : BitVec 5),
    let shifted : Nat := 2 ^ (exponent.toNat + 1) % 2 ^ 32
    let lessened : Nat := if decrement then (shifted + (2 ^ 32 - 1)) % 2 ^ 32 else shifted
    packedLiteralValue complement decrement exponent =
      BitVec.ofNat 32 (if complement then 2 ^ 32 - 1 - lessened else lessened) := by decide

theorem packedOffsetShort_eq {b0 : Byte} (h : b0.toNat < 128) :
    packedOffsetShort (b0.extractLsb' 0 7) = BitVec.ofNat 32 b0.toNat := by
  rw [packedOffsetShort, ← BitVec.ofNat_toNat, BitVec.extractLsb'_toNat, Nat.shiftRight_zero, Nat.mod_eq_of_lt h]

theorem packedOffsetLong_eq {b0 : Byte} (h : 128 ≤ b0.toNat) (lo : Byte) :
    packedOffsetLong (b0.extractLsb' 0 7) lo = BitVec.ofNat 32 ((b0.toNat - 128) * 256 + lo.toNat) := by
  have hlt := b0.isLt
  rw [packedOffsetLong, ← BitVec.ofNat_toNat, append_byte_toNat, BitVec.extractLsb'_toNat, Nat.shiftRight_zero,
    show b0.toNat % 2 ^ 7 = b0.toNat - 128 by omega]

theorem wordValue_eq (b0 b1 : Byte) : wordValue b0 b1 = BitVec.ofNat 32 (b0.toNat * 256 + b1.toNat) := by
  rw [wordValue, ← BitVec.ofNat_toNat, append_byte_toNat]

theorem nearLongValue_eq (b0 b1 b2 : Byte) :
    nearLongValue b0 b1 b2 = BitVec.ofNat 32 ((b0.toNat * 256 + b1.toNat) * 256 + b2.toNat) := by
  rw [nearLongValue, ← BitVec.ofNat_toNat, append_byte_toNat, append_byte_toNat]

theorem longValue_eq (b0 b1 b2 b3 : Byte) :
    longValue b0 b1 b2 b3 = BitVec.ofNat 32 (((b0.toNat * 256 + b1.toNat) * 256 + b2.toNat) * 256 + b3.toNat) := by
  have h : (b0 ++ b1 ++ b2 ++ b3).toNat = ((b0.toNat * 256 + b1.toNat) * 256 + b2.toNat) * 256 + b3.toNat := by
    rw [append_byte_toNat, append_byte_toNat, append_byte_toNat]
  rw [← h, BitVec.ofNat_toNat, BitVec.setWidth_eq]
  rfl

end Sys2Proof.Machine

namespace Sys2Proof

open Machine

theorem getLsbD_seven_of_lt {b : Byte} (h : b.toNat < 128) : b.getLsbD 7 = false :=
  (byte_getLsbD_seven b).trans (decide_eq_false (by omega))

theorem getLsbD_seven_of_le {b : Byte} (h : 128 ≤ b.toNat) : b.getLsbD 7 = true :=
  (byte_getLsbD_seven b).trans (decide_eq_true h)

theorem callExhausts_nil (e : ByteEntry) : CallExhausts e [] := (callExhausts_of_tooShort (.inl rfl)).2

/-- An offset form whose first byte asks for a second is exhausted after it (R219). -/
theorem callExhausts_first {e : ByteEntry} (he : e = .signedOffset ∨ e = .signedPackedOffset ∨ e = .packedOffset)
    {b0 : Byte} (h : b0.getLsbD 7 = true) : CallExhausts e [b0] :=
  (callExhausts_of_tooShort (.inr (.inl ⟨he, b0, rfl, h⟩))).2

/-- Settles O37. -/
theorem signedOffsetValue : Obligations.SignedOffsetValue := by
  refine ⟨callExhausts_nil _, fun b0 => ⟨fun hb => ⟨decodeOffset_short _ _ (getLsbD_seven_of_lt hb),
    deliversValue_of_exec (signedOffsetShort_eq b0 hb) fun _ => rfl⟩, fun hb => ?_⟩⟩
  have htop := getLsbD_seven_of_le hb
  refine ⟨callExhausts_first (.inl rfl) htop, fun b1 => ⟨decodeOffset_long _ _ htop b1,
    deliversValue_of_exec ((signedOffsetLong_eq _ b1).trans ?_) fun _ => rfl⟩⟩
  rw [low_toInt b0 hb]
  congr 1
  split_ifs <;> omega

/-- Settles O38. -/
theorem signedPackedOffsetValue : Obligations.SignedPackedOffsetValue := by
  refine ⟨callExhausts_nil _, fun b0 => ⟨fun hclear => ⟨decodeOffset_short _ _ hclear,
    deliversValue_of_exec (congrArg (BitVec.ofInt 32) (packedSignByte_toInt_eq_rebuilt b0)) fun _ => rfl⟩,
    fun hset => ⟨callExhausts_first (.inr (.inl rfl)) hset, fun b1 => ⟨decodeOffset_long _ _ hset b1,
      deliversValue_of_exec ((signedPackedOffsetLong_eq _ b1).trans ?_) fun _ => rfl⟩⟩⟩⟩
  rw [packedSignByte_toInt_eq_rebuilt]
  rfl

/-- Settles O39: the byte of the three fields is valid, and its value is computed modulo 2^32. -/
theorem packedLiteralValue : Obligations.PackedLiteralValue := by
  refine ⟨callExhausts_nil _, fun complement decrement exponent => ?_⟩
  rw [packedLiteralByte_eq_ofNat]
  obtain ⟨hvalid, hc, hd, he⟩ := packedLiteralByte_fields complement decrement exponent
  refine ⟨fun rest => ?_, fun s h p hat => ?_⟩
  · rw [decodeBytes, decodePackedLiteralByte, hvalid, hc, hd, he]
    rfl
  · rw [← packedLiteralValue_eq]
    exact streamCall_of_streamAt (literalOutcome _ false) hat

/-- Settles O41. -/
theorem packedOffsetValue : Obligations.PackedOffsetValue := by
  refine ⟨callExhausts_nil _, fun b0 => ⟨fun hb => ⟨decodeOffset_short _ _ (getLsbD_seven_of_lt hb),
    deliversValue_of_exec (packedOffsetShort_eq hb) fun _ => rfl⟩, fun hb => ?_⟩⟩
  have htop := getLsbD_seven_of_le hb
  exact ⟨callExhausts_first (.inr (.inr rfl)) htop, fun b1 => ⟨decodeOffset_long _ _ htop b1,
    deliversValue_of_exec (packedOffsetLong_eq hb b1) fun _ => rfl⟩⟩

/-- Settles O42. -/
theorem fixedWidthLiteralValues : Obligations.FixedWidthLiteralValues := by
  refine ⟨fun bs => ⟨fun h => ?_, fun h => ?_, fun h => ?_⟩, fun b0 b1 => ⟨fun _ => rfl,
    deliversValue_of_exec (wordValue_eq b0 b1) fun _ => rfl, fun b2 => ⟨fun _ => rfl,
    deliversValue_of_exec (nearLongValue_eq b0 b1 b2) fun _ => rfl, fun b3 => ⟨fun _ => rfl,
    deliversValue_of_exec (longValue_eq b0 b1 b2 b3) fun _ => rfl⟩⟩⟩⟩
  · exact (callExhausts_of_tooShort (.inr (.inr (.inl ⟨rfl, h⟩)))).2
  · exact (callExhausts_of_tooShort (.inr (.inr (.inr (.inl ⟨rfl, h⟩))))).2
  · exact (callExhausts_of_tooShort (.inr (.inr (.inr (.inr ⟨rfl, h⟩))))).2

end Sys2Proof

/-! ### The two signed offsets (R211, R212) -/

namespace Sys2Proof.Machine

theorem signedOffsetShort_eq_packed (v : BitVec 7) : signedOffsetShort v = signedPackedOffsetShort v := by
  rw [signedOffsetShort, signedPackedOffsetShort, BitVec.signExtend, BitVec.signExtend, packedSignByte_toInt]

theorem signedOffsetLong_eq_packed (hi : BitVec 7) (lo : Byte) :
    signedOffsetLong hi lo = signedPackedOffsetLong hi lo := by
  rw [signedOffsetLong_eq, signedPackedOffsetLong_eq, packedSignByte_toInt]

theorem exec_signedOffset1_eq_packed (v : BitVec 7) (s : State) :
    exec (.operandSignedOffset1 v) s = exec (.operandSignedPackedOffset1 v) s :=
  congrArg (fun value => streamCall 1 (valueOutcome value) s) (signedOffsetShort_eq_packed v)

theorem exec_signedOffset2_eq_packed (hi : BitVec 7) (lo : Byte) (s : State) :
    exec (.operandSignedOffset2 hi lo) s = exec (.operandSignedPackedOffset2 hi lo) s :=
  congrArg (fun value => streamCall 2 (valueOutcome value) s) (signedOffsetLong_eq_packed hi lo)

/-- At an open cursor the two rules ask for the same bytes and give the same value. -/
theorem serveCall_signedOffset_open {s : State} {h p : Nat} (hc : s.cursors[h]? = some p) :
    serveCall (.bytecode .signedOffset (some h)) s = serveCall (.bytecode .signedPackedOffset (some h)) s := by
  rw [serveCall_bytecode_open hc, serveCall_bytecode_open hc]
  generalize Memory.peek s.image p longestForm = bs
  match bs with
  | [] => rfl
  | b0 :: bs =>
    cases htop : b0.getLsbD 7 with
    | false =>
      simp only [decodeBytes, decodeOffset_short _ _ htop]
      exact exec_signedOffset1_eq_packed _ _
    | true =>
      match bs with
      | [] => simp only [decodeBytes, decodeOffset.eq_def, htop, if_true]
      | b1 :: bs =>
        simp only [decodeBytes, decodeOffset_long _ _ htop]
        exact exec_signedOffset2_eq_packed _ _ _

end Sys2Proof.Machine

namespace Sys2Proof

open Machine

/-- Settles O43: without an open cursor both calls end at once. -/
theorem signedAndSignedPackedOffsetsAgree : Obligations.SignedAndSignedPackedOffsetsAgree := by
  intro s handle
  cases handle with
  | none => rw [serveCall_bytecode_none, serveCall_bytecode_none]
  | some h =>
    cases hc : s.cursors[h]? with
    | none => rw [serveCall_bytecode_closed hc, serveCall_bytecode_closed hc]
    | some p => exact serveCall_signedOffset_open hc

end Sys2Proof

/-! ### Completion of every instruction (R318, R350) -/

namespace Sys2Proof.Machine

/-- A bytecode instruction is encoded in at most four bytes (R350). -/
theorem encode_stream_length_le {i : Instr} {e : ByteEntry} {bs : List Byte} (henc : encode i = some (.stream e bs)) :
    bs.length ≤ 4 := by
  obtain ⟨enc, henc', hdec⟩ := roundTrips_of_wellFormed (wellFormed_of_encode_stream henc)
  cases henc.symm.trans henc'
  obtain ⟨used, _, henc', ⟨_, hle⟩, _⟩ := readAs_of_decodeBytes hdec
  cases henc.symm.trans henc'
  exact hle

end Sys2Proof.Machine

namespace Sys2Proof

open Machine

/-- Settles O46: an assembly call reads no stream, and a bytecode call pulls at most the bytes of its encoding. -/
theorem everyInstructionCompletesAndKeepsItsFrame : Obligations.EveryInstructionCompletesAndKeepsItsFrame := by
  intro i s hwf
  obtain ⟨rfl, _⟩ | ⟨op, _, hexec⟩ | ⟨e, bs, finish, henc, hexec⟩ := exec_cases i
  · cases hwf
  · exact ⟨_, .inl ((hexec s).trans (decodeAssembly_eq op s))⟩
  · obtain ⟨_, hcall⟩ | ⟨h, p, k, hh, hc, hk, _, hcall⟩ := streamCall_cases bs.length (finish s.tables) s
    · exact ⟨_, .inl ((hexec s).trans hcall)⟩
    · exact ⟨_, .inr ⟨h, p, k, hh, hc, hk.trans (encode_stream_length_le henc), (hexec s).trans hcall⟩⟩

end Sys2Proof

/-! ### What a call sees and what it does (R29, R58, R62)

A call sees the tables, the image and the cursor of its own stream; what it does is to hand over an outcome and, at
most, to move that cursor. -/

namespace Sys2Proof.Machine

/-- The two states look the same to the call. -/
def SameView (c : Call) (s s' : State) : Prop :=
  s'.tables = s.tables ∧ s'.image = s.image ∧ ∀ h, requestHandle (.call c) = some h → s'.cursors[h]? = s.cursors[h]?

/-- The state after a call that hands over `o` and moves a cursor, if any, to a place. -/
def callEnd (o : CallOutcome) (move : Option (Nat × Nat)) (s : State) : State :=
  match move with
  | none => ended o s
  | some (h, p) => endedAt o h p s

/-- From every state that looks like `s` to it, the call hands over `o` and makes the move, of its own cursor. -/
structure EndsWith (c : Call) (s : State) (o : CallOutcome) (move : Option (Nat × Nat)) : Prop where
  moves_own : ∀ h p, move = some (h, p) → requestHandle (.call c) = some h
  ends : ∀ s', SameView c s s' → serveCall c s' = .next (callEnd o move s')

theorem SameView.refl (c : Call) (s : State) : SameView c s s := ⟨rfl, rfl, fun _ _ => rfl⟩

theorem EndsWith.serveCall_eq {c : Call} {s : State} {o : CallOutcome} {move : Option (Nat × Nat)}
    (h : EndsWith c s o move) : serveCall c s = .next (callEnd o move s) := h.ends s (.refl c s)

@[simp] theorem callEnd_tables (o : CallOutcome) (move : Option (Nat × Nat)) (s : State) :
    (callEnd o move s).tables = s.tables := by
  cases move <;> rfl

@[simp] theorem callEnd_image (o : CallOutcome) (move : Option (Nat × Nat)) (s : State) :
    (callEnd o move s).image = s.image := by
  cases move <;> rfl

@[simp] theorem callEnd_outcome (o : CallOutcome) (move : Option (Nat × Nat)) (s : State) :
    (callEnd o move s).outcome = some o := by
  cases move <;> rfl

/-- A cursor that the call does not move stays. -/
theorem callEnd_cursor_of_ne {o : CallOutcome} {move : Option (Nat × Nat)} {s : State} {h : Nat}
    (hne : ∀ p, move ≠ some (h, p)) : (callEnd o move s).cursors[h]? = s.cursors[h]? := by
  cases move with
  | none => rfl
  | some hp =>
    obtain ⟨h', p⟩ := hp
    exact List.getElem?_set_ne fun heq => hne p (by rw [heq])

/-- Ends of calls that move different cursors differ in their order by the last outcome only. -/
theorem callEnd_comm {o o' : CallOutcome} {move move' : Option (Nat × Nat)} (s : State)
    (hne : ∀ h p p', move = some (h, p) → move' ≠ some (h, p')) :
    callEnd o' move' (callEnd o move s) = { callEnd o move (callEnd o' move' s) with outcome := some o' } := by
  match move, move' with
  | none, none | none, some _ | some _, none => rfl
  | some (h, p), some (h', p') =>
    have hdiffer : h ≠ h' := fun heq => hne h p p' rfl (by rw [heq])
    simp only [callEnd, endedAt, List.set_comm p p' hdiffer]

/-- A bytecode call moves its own cursor at most, and sees nothing but it, the tables and the image. -/
theorem bytecode_endsWith (e : ByteEntry) (handle : Option Nat) (s : State) :
    ∃ o move, EndsWith (.bytecode e handle) s o move := by
  cases handle with
  | none => exact ⟨_, none, nofun, fun s' _ => serveCall_bytecode_none e s'⟩
  | some h =>
    cases hc : s.cursors[h]? with
    | none => exact ⟨_, none, nofun, fun s' ⟨_, _, hcursor⟩ => serveCall_bytecode_closed ((hcursor h rfl).trans hc)⟩
    | some p =>
      obtain ⟨o, k, _, hcall⟩ := serveCall_bytecode_present e s.tables s.image p
      refine ⟨o, some (h, p + k), fun h' p' heq => ?_, fun s' ⟨ht, himage, hcursor⟩ => ?_⟩
      · cases heq
        rfl
      · exact hcall s' h ht himage ((hcursor h rfl).trans hc)

/-- A call that reads no stream ends with an outcome of the tables alone. -/
theorem endsWith_of_tables {c : Call} {s : State} (outcome : Tables → CallOutcome)
    (hcall : ∀ s', serveCall c s' = .next (ended (outcome s'.tables) s')) : EndsWith c s (outcome s.tables) none := by
  refine ⟨nofun, fun s' ⟨ht, _, _⟩ => ?_⟩
  rw [← ht]
  exact hcall s'

theorem regLookup_eq_none_iff (t : Tables) (table : RegTable) (addr : RegAddr) :
    regLookup t table addr = none ↔ inWindow t table addr = false := by
  rw [regLookup]
  cases inWindow t table addr with
  | false => simp
  | true => cases table <;> simp

/-- Everything a call can do: a register lookup outside its window is refused, and every other call ends. -/
theorem serveCall_cases (c : Call) (s : State) :
    (∃ o move, EndsWith c s o move) ∨
      ∃ table addr, c = .regLookup table addr ∧ inWindow s.tables table addr = false ∧
        ∀ s', SameView c s s' → serveCall c s' = .refused .lookupOutsideWindow := by
  cases c with
  | assembly op =>
    exact .inl ⟨_, none, endsWith_of_tables (fun t => .success (.instruction (decodeRecord t op))) (exec_decodeAsm op)⟩
  | bytecode e handle => exact .inl (bytecode_endsWith e handle s)
  | resolve instr zcri src =>
    exact .inl ⟨_, none, endsWith_of_tables
      (fun t => .success (.variant (resolve t instr zcri src).1 (resolve t instr zcri src).2)) fun _ => rfl⟩
  | condLookup con =>
    exact .inl ⟨_, none, endsWith_of_tables (fun t => .success (.conditions (condSynonyms t con))) fun _ => rfl⟩
  | regLookup table addr =>
    cases hr : regLookup s.tables table addr with
    | some r =>
      refine .inl ⟨_, none, nofun, fun s' ⟨ht, _, _⟩ => serveCall_regLookup_of_some (r := r) ?_⟩
      rw [ht, hr]
    | none =>
      refine .inr ⟨table, addr, rfl, (regLookup_eq_none_iff _ _ _).1 hr, fun s' ⟨ht, _, _⟩ => ?_⟩
      simp only [serveCall, callRegLookup, ht, hr]

/-- A call that gives a next state ends with an outcome and at most a move of its own cursor. -/
theorem endsWith_of_serveCall {c : Call} {s t : State} (h : serveCall c s = .next t) :
    ∃ o move, EndsWith c s o move ∧ t = callEnd o move s := by
  obtain ⟨o, move, hends⟩ | ⟨_, _, _, _, hrefused⟩ := serveCall_cases c s
  · cases hends.serveCall_eq.symm.trans h
    exact ⟨o, move, hends, rfl⟩
  · cases (hrefused s (.refl c s)).symm.trans h

/-- A call does the same whatever the block holds when it begins (R29, R319). -/
theorem serveCall_congr {c : Call} {s s' : State} (hview : SameView c s s')
    (hend : ∀ o move, callEnd o move s' = callEnd o move s) : serveCall c s' = serveCall c s := by
  obtain ⟨o, move, hends⟩ | ⟨_, _, _, _, hrefused⟩ := serveCall_cases c s
  · rw [hends.ends s' hview, hends.serveCall_eq, hend]
  · rw [hrefused s' hview, hrefused s (.refl c s)]

end Sys2Proof.Machine

namespace Sys2Proof

open Machine

/-- Settles O47: what the block holds is no part of what a call sees, and the call's end clears it. -/
theorem callsStartAfresh : Obligations.CallsStartAfresh := by
  intro c s latch handle held outcome
  refine ⟨serveCall_congr ⟨rfl, rfl, fun _ _ => rfl⟩ fun o move => by cases move <;> rfl, fun t hcall => ?_⟩
  obtain ⟨o, move, _, rfl⟩ := endsWith_of_serveCall hcall
  exact ⟨(serveCall_callEnds hcall).blockIdle, o, callEnd_outcome o move s⟩

/-- Settles O58: a call on another stream leaves what the other call sees, and the two moves are of different
cursors. -/
theorem callsOnDifferentCursorsCommute : Obligations.CallsOnDifferentCursorsCommute := by
  intro c c' s t t' hdiffer hcall hcall'
  obtain ⟨o, move, hends, rfl⟩ := endsWith_of_serveCall hcall
  obtain ⟨o', move', hends', rfl⟩ := endsWith_of_serveCall hcall'
  have hview' : SameView c' s (callEnd o move s) := ⟨callEnd_tables .., callEnd_image .., fun h hh =>
    callEnd_cursor_of_ne fun p hmove => hdiffer h (hends.moves_own h p hmove) hh⟩
  have hview : SameView c s (callEnd o' move' s) := ⟨callEnd_tables .., callEnd_image .., fun h hh =>
    callEnd_cursor_of_ne fun p hmove => hdiffer h hh (hends'.moves_own h p hmove)⟩
  refine ⟨_, _, hends'.ends _ hview', hends.ends _ hview, ?_⟩
  simp only [callEnd_outcome, true_and]
  exact callEnd_comm s fun h p p' hmove hmove' => hdiffer h (hends.moves_own h p hmove) (hends'.moves_own h p' hmove')

end Sys2Proof

/-! ### Lookups (R120, R124, D29) -/

namespace Sys2Proof.Machine

/-- A lookup is refused exactly outside its window. -/
theorem serveCall_regLookup_refused_iff (s : State) (table : RegTable) (addr : RegAddr) :
    serveCall (.regLookup table addr) s = .refused .lookupOutsideWindow ↔ inWindow s.tables table addr = false := by
  rw [← regLookup_eq_none_iff]
  cases hr : regLookup s.tables table addr with
  | none => simp [serveCall, callRegLookup, hr]
  | some r => simp [serveCall_regLookup_of_some hr]

theorem inWindow_eq_false_iff (t : Tables) (table : RegTable) (addr : RegAddr) :
    inWindow t table addr = false ↔
      addr.toNat < (windowBase t table).toNat ∨ (windowBase t table).toNat + 15 < addr.toNat := by
  rw [← Bool.not_eq_true, inWindow_iff]
  omega

theorem cond_toList_getElem? (t : Tables) (con : BitVec 4) : t.cond.toList[con.toNat]? = some (condSynonyms t con) := by
  rw [Vector.getElem?_toList]
  exact Vector.getElem?_eq_getElem _

theorem length_realSynonyms_eq_one {l : List String} {name : String} (h : realSynonyms l = [name]) :
    (l.filter fun n => n != "").length = 1 ∧ name ∈ l := by
  have hmem : name ∈ realSynonyms l := by rw [h]; exact List.mem_singleton_self name
  exact ⟨congrArg List.length h, (List.mem_filter.1 hmem).1⟩

/-- What well-formed tables say of the synonyms of a condition, by its number (R121). -/
theorem cond_constraints {t : Tables} (hwf : tablesWf t = true) (con : BitVec 4) :
    let l := condSynonyms t con
    (1 ≤ l.length ∧ l.length ≤ 3) ∧ (con ≠ 0#4 → con ≠ 15#4 → 2 ≤ l.length) ∧
      (con = 0#4 → l.length ≤ 2 ∧ (realSynonyms l = ["NOP"] ∨ realSynonyms l = ["IF_NEVER"])) ∧
      (con = 15#4 → l.length ≤ 2 ∧ realSynonyms l = ["IF_ALWAYS"]) := by
  intro l
  have hl : t.cond.toList[con.toNat]? = some l := cond_toList_getElem? t con
  have hlen : t.cond.toList.length = 16 := Vector.length_toList
  simp only [tablesWf, condWf, Bool.and_eq_true, Bool.or_eq_true, List.all_eq_true, decide_eq_true_eq, beq_iff_eq,
    and_assoc] at hwf
  obtain ⟨_, hall, hmiddle, hends, hfirst, hlast, _⟩ := hwf
  refine ⟨hall l (List.mem_of_getElem? hl), fun h0 h15 => hmiddle l ?_, fun h0 => ?_, fun h15 => ?_⟩
  · have h0 : con.toNat ≠ 0 := fun h => h0 (BitVec.eq_of_toNat_eq h)
    have h15 : con.toNat ≠ 15 := fun h => h15 (BitVec.eq_of_toNat_eq h)
    have hlt := con.isLt
    refine List.mem_of_getElem? (i := con.toNat - 1) ?_
    rw [List.getElem?_dropLast, List.length_drop, hlen, if_pos (by omega), List.getElem?_drop, ← hl]
    congr 1
    omega
  · subst h0
    have hmem : l ∈ t.cond.toList.take 1 :=
      List.mem_of_getElem? (i := 0) ((List.getElem?_take_of_lt Nat.one_pos).trans hl)
    exact ⟨hends l (List.mem_append_left _ hmem), hfirst l hmem⟩
  · subst h15
    have hmem : l ∈ t.cond.toList.drop 15 := List.mem_of_getElem? (i := 0) (List.getElem?_drop.trans hl)
    exact ⟨hends l (List.mem_append_right _ hmem), hlast l hmem⟩

end Sys2Proof.Machine

namespace Sys2Proof

open Machine

/-- Settles O49: the special window ends at the last address, the slot window where its sixteen addresses end. -/
theorem registerLookupOutsideItsWindowIsRefused : Obligations.RegisterLookupOutsideItsWindowIsRefused := by
  intro s addr
  have hlt := addr.isLt
  have hbase : (windowBase s.tables .special).toNat = 0x1F0 := rfl
  constructor
  · rw [serveCall_regLookup_refused_iff, inWindow_eq_false_iff, hbase]
    omega
  · rw [serveCall_regLookup_refused_iff, inWindow_eq_false_iff]
    rfl

/-- Settles O50. -/
theorem conditionLookupDeliversTheWholeList : Obligations.ConditionLookupDeliversTheWholeList := by
  intro con s l hl
  have hl := condSynonyms_of_getElem? hl
  subst hl
  refine ⟨rfl, fun hwf => ?_⟩
  obtain ⟨⟨hpos, hle⟩, hmiddle, hfirst, hlast⟩ := cond_constraints hwf con
  refine ⟨hpos, hle, hmiddle, ?_, fun h0 => ?_, fun h15 => ?_⟩
  · rintro (h0 | h15)
    · obtain ⟨hle, hreal | hreal⟩ := hfirst h0 <;> exact ⟨hle, (length_realSynonyms_eq_one hreal).1⟩
    · obtain ⟨hle, hreal⟩ := hlast h15
      exact ⟨hle, (length_realSynonyms_eq_one hreal).1⟩
  · obtain ⟨_, hreal | hreal⟩ := hfirst h0
    · exact .inl (length_realSynonyms_eq_one hreal).2
    · exact .inr (length_realSynonyms_eq_one hreal).2
  · obtain ⟨_, hreal⟩ := hlast h15
    exact (length_realSynonyms_eq_one hreal).2

/-- Settles O51: the byte written stands at the cursor, so it is the byte that the call decodes. -/
theorem imageWritesAreSeenByLaterCalls : Obligations.ImageWritesAreSeenByLaterCalls := by
  intro s a b
  refine ⟨Memory.write s.image a b, rfl, fun a' ha => Memory.read_write_other s.image a a' b ha,
    Memory.write_wf s.image a b, fun h hc => ?_⟩
  have hread : Memory.read (Memory.write s.image a b) a = some b := Memory.read_write_same s.image a b
  have hat : StreamAt (State.present (some h) { s with image := Memory.write s.image a b }) h a [b] := by
    refine ⟨rfl, hc, fun k c hk => ?_⟩
    obtain ⟨rfl, rfl⟩ : k = 0 ∧ c = b := by
      cases k with
      | zero => simpa [eq_comm] using hk
      | succ k => simp at hk
    exact hread
  have hcall : serveCall (.bytecode .memoryOperation (some h)) { s with image := Memory.write s.image a b } =
      .next (endedAt (memopOutcome s.tables b 1) h (a + 1) { s with image := Memory.write s.image a b }) := by
    rw [serveCall_bytecode_open (s := { s with image := Memory.write s.image a b }) hc, longestForm,
      Memory.peek_succ_some _ _ _ _ hread]
    exact exec_decodeMemopByte hat
  exact ⟨_, hcall, rfl⟩

end Sys2Proof

/-! ### The rules of the step (R62, R319, R343) -/

namespace Sys2Proof.Machine

theorem step_of_shared {s : State} (h : s.sharesCursor = true) : step s = .refused .sharedCursor := by
  rw [step, if_pos h]

theorem step_idle {s : State} (h : s.sequences = []) : step s = .next s := by
  have hshared : s.sharesCursor = false := by rw [State.sharesCursor, h]; rfl
  simp only [step, hshared, h, Bool.false_eq_true, if_false]

theorem step_drop {s : State} {others : List (List Request)} (h : s.sequences = [] :: others)
    (hshared : s.sharesCursor = false) : step s = .next (s.withSequences others) := by
  simp only [step, hshared, h, Bool.false_eq_true, if_false]

theorem step_serve {s : State} {q : Request} {later : List Request} {others : List (List Request)}
    (h : s.sequences = (q :: later) :: others) (hshared : s.sharesCursor = false) :
    step s = serve q (s.withSequences (others ++ [later])) := by
  simp only [step, hshared, h, Bool.false_eq_true, if_false]

/-- A state shares a cursor exactly where two of its sequences name one open stream (R62, R343). -/
theorem sharesCursor_iff (s : State) : s.sharesCursor = true ↔
    ∃ (i j : Nat) (a b : List Request) (h : Nat), i < j ∧ s.sequences[i]? = some a ∧ s.sequences[j]? = some b ∧
      h < s.cursors.length ∧ NamesStream a h ∧ NamesStream b h := by
  rw [← Bool.not_eq_false, State.sharesCursor, cursorsShared_eq_false_iff, List.pairwise_iff_getElem]
  constructor
  · intro hnot
    push Not at hnot
    obtain ⟨i, j, hi, hj, hij, h, hh, ha, hb⟩ := hnot
    exact ⟨i, j, _, _, h, hij, List.getElem?_eq_getElem hi, List.getElem?_eq_getElem hj, hh, ha, hb⟩
  · rintro ⟨i, j, a, b, h, hij, hi, hj, hh, ha, hb⟩ hnone
    obtain ⟨hilt, rfl⟩ := List.getElem?_eq_some_iff.1 hi
    obtain ⟨hjlt, rfl⟩ := List.getElem?_eq_some_iff.1 hj
    exact hnone i j hilt hjlt hij h hh ha hb

/-- Everything serving a request can do: a request within the lookups' contract goes on, another is refused. -/
theorem serve_cases (q : Request) (s : State) :
    (InContract s.tables q ∧ ∃ t, serve q s = .next t) ∨
      (¬ InContract s.tables q ∧ serve q s = .refused .lookupOutsideWindow) := by
  cases q with
  | call c =>
    obtain ⟨o, move, hends⟩ | ⟨table, addr, rfl, hwindow, hrefused⟩ := serveCall_cases c s
    · refine .inl ⟨?_, _, hends.serveCall_eq⟩
      cases c with
      | regLookup table addr =>
        by_contra hout
        rw [InContract, Bool.not_eq_true] at hout
        cases hends.serveCall_eq.symm.trans ((serveCall_regLookup_refused_iff s table addr).2 hout)
      | _ => trivial
    · exact .inr ⟨Bool.eq_false_iff.1 hwindow, hrefused s (.refl _ s)⟩
  | writeImage a b => exact .inl ⟨trivial, _, rfl⟩
  | openStream start => exact .inl ⟨trivial, _, rfl⟩
  | resetBlock => exact .inl ⟨trivial, _, rfl⟩

/-- Everything a step can do where no cursor is shared: within the callers' contract it goes on, else it is refused for
the lookup. -/
theorem step_cases_of_not_shared {s : State} (hshared : s.sharesCursor = false) :
    (CallerContract s ∧ Completes s) ∨ (¬ CallerContract s ∧ step s = .refused .lookupOutsideWindow) := by
  match hseq : s.sequences with
  | [] => exact .inl ⟨⟨hshared, by simp only [hseq]⟩, _, step_idle hseq⟩
  | [] :: others => exact .inl ⟨⟨hshared, by simp only [hseq]⟩, _, step_drop hseq hshared⟩
  | (q :: later) :: others =>
    have hcontract : CallerContract s ↔ InContract s.tables q := by
      simp only [CallerContract, hshared, hseq, true_and]
    rw [hcontract, Completes, step_serve hseq hshared]
    exact serve_cases q (s.withSequences (others ++ [later]))

/-- The requests still to serve take no part in what serving one does. -/
theorem serve_withSequences {q : Request} {s t : State} (h : serve q s = .next t) (sequences : List (List Request)) :
    serve q (s.withSequences sequences) = .next (t.withSequences sequences) := by
  cases q with
  | call c =>
    obtain ⟨o, move, hends, rfl⟩ := endsWith_of_serveCall h
    refine (hends.ends (s.withSequences sequences) ⟨rfl, rfl, fun _ _ => rfl⟩).trans ?_
    cases move <;> rfl
  | writeImage a b => cases h; rfl
  | openStream start => cases h; rfl
  | resetBlock => cases h; rfl

/-- Serving a request moves no cursor of an open stream but the one the request names. -/
theorem requestHandle_of_cursor_moved {q : Request} {s t : State} {h : Nat} (hserve : serve q s = .next t)
    (hopen : h < s.cursors.length) (hmoved : t.cursors[h]? ≠ s.cursors[h]?) : requestHandle q = some h := by
  cases q with
  | call c =>
    obtain ⟨o, move, hends, rfl⟩ := endsWith_of_serveCall hserve
    by_contra hne
    exact hmoved (callEnd_cursor_of_ne fun p hmove => hne (hends.moves_own h p hmove))
  | writeImage a b =>
    cases hserve
    exact absurd rfl hmoved
  | openStream start =>
    cases hserve
    exact absurd (List.getElem?_append_left hopen) hmoved
  | resetBlock =>
    cases hserve
    exact absurd rfl hmoved

/-- A sequence whose first request names a stream holds it. -/
theorem namesStream_of_requestHandle {q : Request} {later : List Request} {h : Nat} (hq : requestHandle q = some h) :
    NamesStream (q :: later) h := by
  obtain ⟨e, rfl⟩ := (requestHandle_eq_some_iff q h).1 hq
  exact ⟨e, List.mem_cons_self⟩

end Sys2Proof.Machine

namespace Sys2Proof

open Machine

/-- Settles O53: only the test for shared cursors refuses so, and serving a request sees and moves no cursor but its
own. -/
theorem sharedCursorsAreRefused : Obligations.SharedCursorsAreRefused := by
  refine ⟨fun s => ?_, fun s t a others hseq hstep h hopen hmoved => ?_, fun s t q later others hseq hstep => ?_⟩
  · rw [← sharesCursor_iff]
    refine ⟨fun hstep => ?_, step_of_shared⟩
    by_contra hnot
    have hshared : s.sharesCursor = false := by simpa using hnot
    obtain ⟨_, t, hnext⟩ | ⟨_, hrefused⟩ := step_cases_of_not_shared hshared
    · cases hstep.symm.trans hnext
    · cases hstep.symm.trans hrefused
  · obtain ⟨hshared, ⟨_, rfl⟩ | ⟨_, _, rfl⟩ | ⟨q, later, others', hseq', hserve⟩⟩ := step_cases s t hstep
    · exact absurd rfl hmoved
    · exact absurd rfl hmoved
    · cases hseq.symm.trans hseq'
      have hnames := namesStream_of_requestHandle (later := later) (requestHandle_of_cursor_moved hserve hopen hmoved)
      rw [State.sharesCursor, hseq, cursorsShared_eq_false_iff, List.pairwise_cons] at hshared
      exact ⟨hnames, fun b hb => hshared.1 b hb h hopen hnames⟩
  · obtain ⟨hshared, _⟩ := step_cases s t hstep
    rw [step_serve hseq hshared] at hstep
    rw [step_serve (s := s.withSequences [q :: later]) rfl rfl]
    exact serve_withSequences hstep [later]

/-- Settles O54. -/
theorem stepsCompleteExactlyUnderTheContract : Obligations.StepsCompleteExactlyUnderTheContract := by
  intro s
  cases hshared : s.sharesCursor with
  | true =>
    refine iff_of_false (fun ⟨t, hstep⟩ => ?_) fun ⟨hnot, _⟩ => Bool.noConfusion (hshared.symm.trans hnot)
    cases (step_of_shared hshared).symm.trans hstep
  | false =>
    obtain ⟨hcontract, hnext⟩ | ⟨hcontract, hrefused⟩ := step_cases_of_not_shared hshared
    · exact iff_of_true hnext hcontract
    · refine iff_of_false (fun ⟨t, hstep⟩ => ?_) hcontract
      cases hrefused.symm.trans hstep

/-- Settles O59. -/
theorem resetClearsOnlyTheBlock : Obligations.ResetClearsOnlyTheBlock :=
  ⟨fun s => ⟨s.blockReset, rfl, ⟨rfl, rfl, rfl⟩, rfl, rfl, rfl, rfl, rfl⟩, ⟨rfl, rfl, rfl⟩, rfl, rfl, rfl, rfl, rfl⟩

/-- Settles O60. -/
theorem otherRequestsAreServedInTurn : Obligations.OtherRequestsAreServedInTurn :=
  ⟨fun _ => step_idle, fun _ _ => step_drop, fun _ _ _ _ hseq _ hshared => step_serve hseq hshared,
    fun _ _ => ⟨_, rfl, rfl, List.getElem?_concat_length⟩⟩

/-- Settles O52: the step serves the request, and the request's call runs what it decodes. -/
theorem stepRunsTheDecodedInstruction : Obligations.StepRunsTheDecodedInstruction := by
  refine ⟨fun s op later others hseq hshared => step_serve hseq hshared,
    fun s e h p later others i rest hseq hshared hc hdec => ?_⟩
  rw [step_serve hseq hshared, serve, serveCall_bytecode_open (s := s.withSequences (others ++ [later])) hc]
  simp only [State.withSequences_image, longestForm, hdec]

end Sys2Proof

/-! ### A placed word (notes/assumptions/2.md, 10.md) -/

namespace Sys2Proof.Machine

/-- A sequence that names no stream shares no cursor with the others. -/
theorem cursorsShared_cons_assembly (opened : Nat) (op : Opcode) (sequences : List (List Request)) :
    cursorsShared opened ([.call (.assembly op)] :: sequences) = cursorsShared opened sequences := by
  have hheld : streamsHeld opened [.call (.assembly op)] = [] := rfl
  simp [cursorsShared, hheld]

/-- An opcode is placed as an assembly call in front. -/
theorem withFetchWord_opcode (s : State) (w : Nat) :
    s.withFetchWord 32 w = s.withSequences ([.call (.assembly (BitVec.ofNat 32 w))] :: s.sequences) := by
  simp only [State.withFetchWord, tableEncoding, opcodeOfBytes_tableBytes]

/-- The bytes of a word are placed on a new stream, its cursor on the first of them, and a call in front reads it. -/
theorem withFetchWord_stream {s : State} {nbits w : Nat} {e : ByteEntry} {bytes : List Byte}
    (henc : tableEncoding nbits w = some (.stream e bytes)) (hlen : bytes.length = 4) :
    (s.withFetchWord nbits w).sequences = [.call (.bytecode e (some s.cursors.length))] :: s.sequences ∧
      (s.withFetchWord nbits w).cursors[s.cursors.length]? = some (Memory.top s.image) ∧
      Memory.peek (s.withFetchWord nbits w).image (Memory.top s.image) 4 = bytes := by
  simp only [State.withFetchWord, henc]
  refine ⟨trivial, List.getElem?_concat_length, ?_⟩
  rw [← hlen]
  exact Memory.peek_writeList bytes s.image _

/-- The three lengths that stand for bytes are four bytes for one entry point. -/
theorem tableEncoding_stream {nbits : Nat} {e : ByteEntry} (w : Nat)
    (h : (nbits, e) ∈ [(8, ByteEntry.assignment), (16, ByteEntry.word), (24, ByteEntry.nearLong)]) :
    ∃ bytes, tableEncoding nbits w = some (.stream e bytes) ∧ bytes.length = 4 := by
  simp only [List.mem_cons, List.not_mem_nil, or_false, Prod.mk.injEq] at h
  obtain ⟨rfl, rfl⟩ | ⟨rfl, rfl⟩ | ⟨rfl, rfl⟩ := h <;> exact ⟨_, rfl, rfl⟩

/-- The instruction of a table word is what its entry point reads from the word's bytes. -/
theorem decodeBytes_of_decodeTableWord {nbits w : Nat} {e : ByteEntry} {bytes : List Byte} {i : Instr}
    (henc : tableEncoding nbits w = some (.stream e bytes)) (h : decodeTableWord nbits w = some i) :
    ∃ rest, decodeBytes e bytes = .ok (i, rest) := by
  simp only [decodeTableWord, henc, decode] at h
  cases hdec : decodeBytes e bytes with
  | ok r =>
    simp only [hdec, Option.some.injEq] at h
    exact ⟨r.2, by rw [← h]⟩
  | error r => simp [hdec] at h

end Sys2Proof.Machine

namespace Sys2Proof

open Machine

/-- Settles O8: the placed call is the first request, and the bytes placed are those at its cursor. -/
theorem placedWordsRunNext : Obligations.PlacedWordsRunNext := by
  obtain ⟨hasm, hbytes⟩ := stepRunsTheDecodedInstruction
  refine fun s w => ⟨fun hshared => ?_, fun nbits e i hmem hword hshared => ?_⟩
  · rw [withFetchWord_opcode]
    refine hasm (s.withSequences _) _ [] s.sequences rfl ?_
    rw [State.sharesCursor, State.withSequences_sequences, cursorsShared_cons_assembly]
    exact hshared
  · obtain ⟨bytes, henc, hlen⟩ := tableEncoding_stream w hmem
    obtain ⟨hseq, hcursor, hpeek⟩ := withFetchWord_stream (s := s) henc hlen
    obtain ⟨rest, hdec⟩ := decodeBytes_of_decodeTableWord henc hword
    rw [← hpeek] at hdec
    exact hbytes _ e _ _ [] s.sequences i rest hseq hshared hcursor hdec

end Sys2Proof
